-- ==== Sys2Proof/Word.lean ====
section
/-! DEFINITION. The word types of the dsPIC33F/PIC24H interrupt controller model and their plainest arithmetic. -/

namespace Sys2Proof

/-- One byte of data memory. -/
abbrev Byte := BitVec 8

/-- A data word, a working register or a control register (10_state.md R23, 00_scope.md R6). -/
abbrev Word := BitVec 16

/-- A data-space byte address (20_memory.md R101). -/
abbrev DAddr := BitVec 16

/-- A word of program memory (20_memory.md R100). -/
abbrev PWord := BitVec 24

/-- A program-memory address (10_state.md R20): 23 bits, the most that the frame, GOTO and a vector carry. The width of
the pc itself is the parameter PCW of the device. -/
abbrev PAddr := BitVec 23

/-- A CPU priority level, 0 to 15 (60_exceptions.md R200). -/
abbrev Level := BitVec 4

/-- A working register number (30_encoding.md R134). -/
abbrev WReg := BitVec 4

/-- An accumulator, "at least 40 bits" (10_state.md R27). -/
abbrev AccVal := BitVec 40

/-- `old` with the bits that `mask` selects taken from `new`. -/
def replaceBits (old new mask : Word) : Word := (old &&& ~~~mask) ||| (new &&& mask)

/-- `w` with bit `i` set to `b`. -/
def setBit (w : Word) (i : Nat) (b : Bool) : Word :=
  replaceBits w (if b then 0xFFFF#16 else 0x0000#16) (1#16 <<< i)

end Sys2Proof
end

