-- ==== Sys2Proof/Syntax.lean ====
section
/-! DEFINITION. The instructions: one constructor for each row of spec/opcode_table.json, its operands at the widths
of 30_encoding.md R133 and R134. -/

namespace Sys2Proof

/-- One constructor per row of the opcode table (30_encoding.md R135). -/
inductive Instr where
  /-- NOP; the low 16 bits are ignored (41_referenced_instructions.md R175). -/
  | nop (ignored : BitVec 16)
  /-- GOTO Expr, two words (R172). -/
  | goto (target : PAddr)
  /-- RETURN (R174). -/
  | ret
  /-- RETFIE (40_interrupt_instructions.md R154). -/
  | retfie
  /-- MOV #lit16,Wnd (R179). -/
  | movLit (lit : Word) (d : WReg)
  /-- BRA Expr, a signed offset in instruction words (R173). -/
  | bra (offset : BitVec 16)
  /-- MOV f,Wnd (R181). -/
  | movToReg (f : DAddr) (d : WReg)
  /-- MOV Wns,f (R180). -/
  | movToFile (ws : WReg) (f : DAddr)
  /-- CLR f (byteOp = false, toFile = true), CLR.B f (true, true) and CLR WREG (toFile = false) (R178). -/
  | clr (byteOp : Bool) (toFile : Bool) (f : BitVec 13)
  /-- PUSH f (R176). -/
  | push (f : DAddr)
  /-- POP f (R177). -/
  | pop (f : DAddr)
  /-- DISI #lit14 (R150, R151). -/
  | disi (lit : BitVec 14)
  /-- RESET (R170). -/
  | reset
  /-- PWRSAV #lit1: 0 is Sleep, 1 is Idle (R171). -/
  | pwrsav (lit : BitVec 1)
deriving DecidableEq, Repr

end Sys2Proof
end

