-- ==== Sys2Proof/WellFormed.lean ====
section
/-! DEFINITION. Which instruction terms an encoding can express: the operand bits that 30_encoding.md R134 fixes at 0
are 0 in the term. -/

namespace Sys2Proof

/-- Bit 0 of an address operand that the encoding drops is 0 (30_encoding.md R134). -/
def evenAddr {n : Nat} (a : BitVec n) : Bool := !a.getLsbD 0

/-- The checks of 30_encoding.md R134: the target of GOTO and the address of PUSH, POP and the two file MOVs are even.
The address of CLR may be odd (R178). -/
def Instr.wf : Instr → Bool
  | .nop _ => true
  | .goto target => evenAddr target
  | .ret => true
  | .retfie => true
  | .movLit _ _ => true
  | .bra _ => true
  | .movToReg f _ => evenAddr f
  | .movToFile _ f => evenAddr f
  | .clr _ _ _ => true
  | .push f => evenAddr f
  | .pop f => evenAddr f
  | .disi _ => true
  | .reset => true
  | .pwrsav _ => true

end Sys2Proof
end

