-- ==== Sys2Proof/Decode.lean ====
section
/-! DEFINITION. The decoder, total on any list of program words and rejecting by name, and the encoder, both written
from 30_encoding.md R133 to R135. -/

namespace Sys2Proof

/-- Why a list of program words is no instruction. -/
inductive DecodeError where
  /-- There is no word to decode. -/
  | noWord
  /-- The word matches no row of the opcode map (30_encoding.md R135, R136). -/
  | unlisted (w : PWord)
  /-- The second word of a GOTO is missing. -/
  | missingGotoWord
  /-- The second word of a GOTO has a bit of 23:7 set (R135). -/
  | badGotoWord (w2 : PWord)
deriving DecidableEq, Repr

/-- The result of decoding: an instruction with the words after it, or a rejection. -/
inductive Decoded where
  | ok (i : Instr) (rest : List PWord)
  | reject (why : DecodeError)
deriving DecidableEq, Repr

/-- The field of `len` bits from bit `lo` up. -/
abbrev field (w : PWord) (lo len : Nat) : BitVec len := w.extractLsb' lo len

/-- An even address from its bits 15:1. -/
def fileAddr (f : BitVec 15) : DAddr := f ++ 0#1

/-- The GOTO row: `target[22:0] = word2[6:0] : word1[15:1] : 0` (R134), bits 23:7 of the second word 0 (R135). -/
def decodeGoto (w : PWord) : List PWord → Decoded
  | [] => .reject .missingGotoWord
  | w2 :: rest =>
    if field w2 7 17 = 0#17 then .ok (.goto (field w2 0 7 ++ field w 1 15 ++ 0#1)) rest
    else .reject (.badGotoWord w2)

/-- The rows of one word (R135). -/
def decodeOne (w : PWord) : Option Instr :=
  if field w 16 8 = 0x00#8 then some (.nop (field w 0 16))
  else if w = 0x060000#24 then some .ret
  else if w = 0x064000#24 then some .retfie
  else if field w 20 4 = 0x2#4 then some (.movLit (field w 4 16) (field w 0 4))
  else if field w 16 8 = 0x37#8 then some (.bra (field w 0 16))
  else if field w 19 5 = 0x10#5 then some (.movToReg (fileAddr (field w 4 15)) (field w 0 4))
  else if field w 19 5 = 0x11#5 then some (.movToFile (field w 0 4) (fileAddr (field w 4 15)))
  else if field w 15 9 = 0x1DE#9 then some (.clr (w.getLsbD 14) (w.getLsbD 13) (field w 0 13))
  else if field w 16 8 = 0xF8#8 ∧ field w 0 1 = 0#1 then some (.push (fileAddr (field w 1 15)))
  else if field w 16 8 = 0xF9#8 ∧ field w 0 1 = 0#1 then some (.pop (fileAddr (field w 1 15)))
  else if field w 14 10 = 0x3F0#10 then some (.disi (field w 0 14))
  else if w = 0xFE0000#24 then some .reset
  else if field w 1 23 = 0x7F2000#23 then some (.pwrsav (field w 0 1))
  else none

/-- Decodes the instruction at the head of a list of program words. A first word with bits 23:16 = 0x04 and bit 0 = 0
is followed by a second word (R132). -/
def decode : List PWord → Decoded
  | [] => .reject .noWord
  | w :: rest =>
    if field w 16 8 = 0x04#8 ∧ field w 0 1 = 0#1 then decodeGoto w rest
    else
      match decodeOne w with
      | some i => .ok i rest
      | none => .reject (.unlisted w)

/-- The program words of an instruction (R133). -/
def encode : Instr → List PWord
  | .nop x => [0x00#8 ++ x]
  | .goto t => [0x04#8 ++ t.extractLsb' 1 15 ++ 0#1, 0#17 ++ t.extractLsb' 16 7]
  | .ret => [0x060000#24]
  | .retfie => [0x064000#24]
  | .movLit k d => [0x2#4 ++ k ++ d]
  | .bra n => [0x37#8 ++ n]
  | .movToReg f d => [0x10#5 ++ f.extractLsb' 1 15 ++ d]
  | .movToFile ws f => [0x11#5 ++ f.extractLsb' 1 15 ++ ws]
  | .clr b d f => [0x1DE#9 ++ BitVec.ofBool b ++ BitVec.ofBool d ++ f]
  | .push f => [0xF8#8 ++ f.extractLsb' 1 15 ++ 0#1]
  | .pop f => [0xF9#8 ++ f.extractLsb' 1 15 ++ 0#1]
  | .disi k => [0x3F0#10 ++ k]
  | .reset => [0xFE0000#24]
  | .pwrsav k => [0x7F2000#23 ++ k]

/-- How many program words an instruction has (R132). -/
def Instr.words : Instr → Nat
  | .goto _ => 2
  | .nop _ => 1
  | .ret => 1
  | .retfie => 1
  | .movLit _ _ => 1
  | .bra _ => 1
  | .movToReg _ _ => 1
  | .movToFile _ _ => 1
  | .clr _ _ _ => 1
  | .push _ => 1
  | .pop _ => 1
  | .disi _ => 1
  | .reset => 1
  | .pwrsav _ => 1

/-- The two program words of `w`, numbered as the opcode table numbers bits; bits above `nbits` are 0. -/
def tableWords (nbits w : Nat) : List PWord :=
  let v := w % 2 ^ nbits
  [BitVec.ofNat 24 v, BitVec.ofNat 24 (v >>> 24)]

/-- The instruction the decoder reads from the table's numbering of bits. -/
def decodeTableWord (nbits w : Nat) : Option Instr :=
  match decode (tableWords nbits w) with
  | .ok i _ => some i
  | .reject _ => none

end Sys2Proof
end

