-- ==== Sys2Proof/Config.lean ====
section
/-! DEFINITION. What an implementation fixes (the spec's parameters of 00_scope.md R7, as the plain data
type Device) and the free values: constants without a body, applied to a counter of State, for every value
the spec leaves open (93_implementation_defined.md Part 1). -/

namespace Sys2Proof

/-- The registers that are reached through the data space (10_state.md R52). -/
inductive Sfr where
  | w15 | splim | sr | corcon | disicnt | intcon1 | intcon2 | inttreg | rcon | osccon
  | ifs (k : Fin 5)
  | iec (k : Fin 5)
  | ipc (k : Fin 18)
deriving DecidableEq, Repr

/-- The kinds of CPU step that have a cycle set (70_reset_and_hazards.md R348). `fetchError` is the step that
finds program memory unimplemented at the pc (61_traps.md R299); R348 has no row for it (log 43). -/
inductive StepKind where
  | nop | disi | pwrsav | clr | movLit | movToFile | movToReg | push | pop | bra | goto | ret | retfie
  | entry | fetchError
deriving DecidableEq, Repr

/-- A range of implemented addresses, both ends included. -/
structure Region where
  first : Nat
  last : Nat
deriving DecidableEq, Repr

/-- The parameters of the device (00_scope.md R7, 92_eei_decisions.md P1 to P7). -/
structure Device where
  /-- SOURCES: bit i is 1 when interrupt request number i is implemented. -/
  sources : BitVec 118
  /-- sfr_addr, read from address to register: the first entry for an address counts. -/
  sfrMap : List (DAddr × Sfr)
  /-- prog_implemented beyond the range that every device has. -/
  progRegions : List Region
  /-- data_implemented beyond the registers. -/
  dataRegions : List Region
  /-- PCW, the width of the program counter; above 23 it acts as 23 (log 4). -/
  pcw : Nat
  /-- cyc_set; a kind without an entry takes one cycle. -/
  cycles : List (StepKind × List Nat)
  /-- SKID_MAX. -/
  skidMax : Nat
deriving DecidableEq, Repr

namespace Config

/-- The value of an `any value` data read (U2, U3, U5, U15 and the bits of RCON and OSCCON that the spec does not
give): chosen afresh at each step for each address. UNSPECIFIED BY THE SPEC (log 7). -/
opaque freeRead : Nat → DAddr → Word

/-- Bits 22:1 of the pc after a program-side address error (U6, R299; log 37). -/
opaque freePc : Nat → BitVec 22

/-- INTTREG.VECNUM after a trap entry (U4; log 25). -/
opaque freeVecnum : Nat → BitVec 7

/-- Chooses the cycle count of a step from its cycle set (D7; log 5). -/
opaque freeCycles : Nat → Nat

/-- Chooses between an entry at once and one more instruction (R215, D6; log 6). -/
opaque freeSkid : Nat → Bool

/-- Chooses, for pin k, whether a write that changes INTkEP sets INTkIF (U13, D26; log 30). -/
opaque freeGlitch : Nat → Nat → Bool

/-- Chooses whether a load of W15 with a value below 0x0800 raises the stack error trap (U14, D23; log 31). -/
opaque freeLowLoad : Nat → Bool

/-- Chooses the old or the new priority of a source at the first arbitration after an IPC write (U1; log 29). -/
opaque freeStale : Nat → Nat → Bool

/-- TRAPR after a software write of 1 while it is 0 (log 14). -/
opaque freeTrapr : Nat → Bool

/-- CF after a software write of OSCCON (log 15). -/
opaque freeCf : Nat → Bool

/-- W0 to W14 after the n-th device Reset (U11; log 11). -/
opaque resetW : Nat → Nat → Word

/-- SPLIM after the n-th device Reset (U2; log 12). -/
opaque resetSplim : Nat → Word

/-- The accumulators after the n-th device Reset (U11; log 16). -/
opaque resetAccA : Nat → AccVal

/-- See `resetAccA`. -/
opaque resetAccB : Nat → AccVal

/-- TRAPR after the n-th device Reset, where that is no hard-trap conflict (U16; log 14). -/
opaque resetTrapr : Nat → Bool

/-- CF after the n-th device Reset (U11; log 15). -/
opaque resetCf : Nat → Bool

/-- A byte of RAM that nothing has written since the n-th device Reset (U11; log 9). -/
opaque ramByte : Nat → DAddr → Byte

/-- A word of program memory that the program image does not give (log 10). -/
opaque progWord : PAddr → PWord

end Config
end Sys2Proof
end

