-- ==== Sys2Proof/Machine/Defaults.lean ====
section
/-! DEFINITION. The device that State.reset takes: the spec's default parameters (00_scope.md R7), which registers
have which bits, and what the parameters say of an address or a source. -/

namespace Sys2Proof.Machine

/-- An interrupt request number with registers, 0 to 71 (11_interrupt_registers.md R71). -/
abbrev Irq := Fin 72

/-- The IFS and IEC register that holds the bits of a source (R71). -/
def Irq.reg (i : Irq) : Fin 5 := ⟨i.val / 16, by omega⟩

/-- The bit of that register (R71). -/
def Irq.bit (i : Irq) : Nat := i.val % 16

/-- The IPC register that holds the priority of a source (R71). -/
def Irq.ipcReg (i : Irq) : Fin 18 := ⟨i.val / 4, by omega⟩

/-- The lowest bit of its priority field (R71). -/
def Irq.ipcLow (i : Irq) : Nat := 4 * (i.val % 4)

/-- The implemented bits of IFSk and IECk when the device has every source of Table 6-1 (R74, table T2). -/
def namedMask (k : Fin 5) : Word :=
  match k.val with
  | 0 => 0x7FFF#16
  | 1 => 0xFFFB#16
  | 2 => 0xDFFF#16
  | 3 => 0xBFFF#16
  | _ => 0x00F7#16

/-- The implemented bits of IFSk and IECk on a device: a source outside SOURCES is unimplemented (R73). -/
def sourceMask (d : Device) (k : Fin 5) : Word :=
  namedMask k &&& d.sources.extractLsb' (16 * k.val) 16

/-- The device implements the source: it is in SOURCES and is no reserved row (R72, R73). -/
def hasSource (d : Device) (i : Irq) : Bool := (sourceMask d i.reg).getLsbD i.bit

/-- The three bits of a source's priority field in its IPC register, or none (R89). -/
def ipcFieldMask (d : Device) (i : Irq) : Word :=
  if hasSource d i then 0x0007#16 <<< i.ipcLow else 0x0000#16

/-- The implemented bits of IPCj (R87, R89). -/
def ipcMask (d : Device) (j : Fin 18) : Word :=
  ipcFieldMask d ⟨4 * j.val, by omega⟩ ||| ipcFieldMask d ⟨4 * j.val + 1, by omega⟩
    ||| ipcFieldMask d ⟨4 * j.val + 2, by omega⟩ ||| ipcFieldMask d ⟨4 * j.val + 3, by omega⟩

/-- The reset value of IPCj: 100 in every implemented field (R90). -/
def resetIpc (d : Device) (j : Fin 18) : Word := 0x4444#16 &&& ipcMask d j

/-- An address lies in one of the regions. -/
def inRegions (rs : List Region) (a : Nat) : Bool :=
  rs.any fun r => decide (r.first ≤ a) && decide (a ≤ r.last)

/-- The register at a data address; a register is one aligned word (10_state.md R52). -/
def sfrAt (d : Device) (a : DAddr) : Option Sfr := d.sfrMap.lookup a

/-- The even address of the word that holds a byte address. -/
def wordAddr (a : DAddr) : DAddr := a &&& 0xFFFE#16

/-- `data_implemented(a)`: true for every register (92_eei_decisions.md P4) and in the device's regions. -/
def dataImplemented (d : Device) (a : DAddr) : Bool :=
  (sfrAt d (wordAddr a)).isSome || inRegions d.dataRegions a.toNat

/-- `prog_implemented(a)`: true for 0x000000 to 0x0001FE (P3) and in the device's regions. -/
def progImplemented (d : Device) (a : PAddr) : Bool :=
  decide (a.toNat < 0x200) || inRegions d.progRegions a.toNat

/-- A program address in the width of the pc: modulo 2^PCW (00_scope.md R7, 92_eei_decisions.md D5). -/
def wrapPc (d : Device) (a : PAddr) : PAddr := BitVec.ofNat 23 (a.toNat % 2 ^ d.pcw)

/-- One element of a cycle set, at least 1 (00_scope.md R7, D7). -/
def drawFrom (set : List Nat) (n : Nat) : Nat :=
  match set with
  | [] => 1
  | [c] => max 1 c
  | cs => max 1 (cs.getD (n % cs.length) 1)

/-- The cycle set of a kind of step. -/
def cycleSet (d : Device) (k : StepKind) : List Nat := (d.cycles.lookup k).getD [1]

/-- The default of `sfr_addr` (10_state.md R52). -/
def defaultSfrMap : List (DAddr × Sfr) :=
  [(0x001E#16, .w15), (0x0020#16, .splim), (0x0042#16, .sr), (0x0044#16, .corcon), (0x0052#16, .disicnt),
   (0x0080#16, .intcon1), (0x0082#16, .intcon2), (0x00E0#16, .inttreg), (0x0740#16, .rcon), (0x0742#16, .osccon)]
  ++ [(0x0084#16, .ifs 0), (0x0086#16, .ifs 1), (0x0088#16, .ifs 2), (0x008A#16, .ifs 3), (0x008C#16, .ifs 4)]
  ++ [(0x0094#16, .iec 0), (0x0096#16, .iec 1), (0x0098#16, .iec 2), (0x009A#16, .iec 3), (0x009C#16, .iec 4)]
  ++ [(0x00A4#16, .ipc 0), (0x00A6#16, .ipc 1), (0x00A8#16, .ipc 2), (0x00AA#16, .ipc 3), (0x00AC#16, .ipc 4),
      (0x00AE#16, .ipc 5), (0x00B0#16, .ipc 6), (0x00B2#16, .ipc 7), (0x00B4#16, .ipc 8), (0x00B6#16, .ipc 9),
      (0x00B8#16, .ipc 10), (0x00BA#16, .ipc 11), (0x00BC#16, .ipc 12), (0x00BE#16, .ipc 13), (0x00C0#16, .ipc 14),
      (0x00C2#16, .ipc 15), (0x00C4#16, .ipc 16), (0x00C6#16, .ipc 17)]

/-- The default of `cyc_set` (70_reset_and_hazards.md R348); RESET has none and the failed fetch is log 43. -/
def defaultCycles : List (StepKind × List Nat) :=
  [(.nop, [1]), (.disi, [1]), (.pwrsav, [1]), (.clr, [1]), (.movLit, [1]), (.movToFile, [1]), (.movToReg, [1]),
   (.push, [1, 2]), (.pop, [1, 2]), (.bra, [2]), (.goto, [2]), (.ret, [3, 4]), (.retfie, [3, 4]),
   (.entry, [3, 4, 5]), (.fetchError, [1])]

/-- The device of State.reset: the defaults of 00_scope.md R7; `prog_implemented` and `data_implemented`, which have no
default, as 95_test_vectors.md takes them. DESIGN CHOICE (logs 1 to 6). -/
def defaultDevice : Device where
  sources := 0x00F7BFFFDFFFFFFB7FFF#118
  sfrMap := defaultSfrMap
  progRegions := [⟨0x000000, 0x0007FF⟩]
  dataRegions := [⟨0x0800, 0x0FFF⟩]
  pcw := 23
  cycles := defaultCycles
  skidMax := 2

end Sys2Proof.Machine
end

