-- ==== Sys2Proof/Machine/Memory.lean ====
section
/-! DEFINITION. Sparse memories: lists of address and value pairs in one canonical form, addresses strictly rising.
An address that is not listed has no fixed value (logs 9 and 10), so no listed entry is redundant. -/

namespace Sys2Proof.Machine

/-- Data memory other than the registers: bytes by address (20_memory.md R101). -/
abbrev Memory := List Host.Cell

/-- Program memory: 24-bit words by even address (R100). -/
abbrev ProgMem := List (Nat × PWord)

/-- The value listed for an address, if any. -/
def storeGet {α : Type} : List (Nat × α) → Nat → Option α
  | [], _ => none
  | (k, v) :: m, a => if a = k then some v else storeGet m a

/-- The list with the value at one address replaced or inserted, the order kept. -/
def storeSet {α : Type} : List (Nat × α) → Nat → α → List (Nat × α)
  | [], a, v => [(a, v)]
  | (k, u) :: m, a, v =>
    if a < k then (a, v) :: (k, u) :: m
    else if a = k then (a, v) :: m
    else (k, u) :: storeSet m a v

/-- Addresses strictly rising, each at least `lo`. -/
def storeSorted {α : Type} (lo : Nat) : List (Nat × α) → Bool
  | [] => true
  | (k, _) :: m => decide (lo ≤ k) && storeSorted (k + 1) m

/-- The canonical form of data memory: rising addresses inside the 16-bit data space. -/
def Memory.wf (m : Memory) : Bool := storeSorted 0 m && m.all fun c => decide (c.1 < 0x10000)

/-- The canonical form of program memory: rising even addresses inside the 23-bit program space. -/
def ProgMem.wf (m : ProgMem) : Bool :=
  storeSorted 0 m && m.all fun c => decide (c.1 < 0x800000) && c.1 % 2 == 0

end Sys2Proof.Machine
end

