-- ==== Sys2Proof/Machine/State.lean ====
section
/-! DEFINITION. The state of the machine as plain data, the ways a step can stop, the events of the environment, and the
state after reset (10_state.md, 11_interrupt_registers.md, 20_memory.md; INVENTORY.md lists every field). -/

namespace Sys2Proof.Machine

/-- The power mode (60_exceptions.md R240). -/
inductive PowerMode where
  | run | sleep | idle
deriving DecidableEq, Repr

/-- The five non-maskable traps (61_traps.md R270). -/
inductive Trap where
  | oscFail | addressError | stackError | mathError | dmacError
deriving DecidableEq, Repr

/-- The two accumulators (10_state.md R27). -/
inductive Acc where
  | a | b
deriving DecidableEq, Repr

/-- The kinds of device Reset (70_reset_and_hazards.md R320). -/
inductive ResetKind where
  | powerOn | other | software | trapConflict
deriving DecidableEq, Repr

/-- What another agent can do between two CPU steps (20_memory.md R117, 93_implementation_defined.md U18). -/
inductive Event where
  /-- Source `i` fires (60_exceptions.md R204). -/
  | fire (i : Irq)
  /-- Pin INTk goes to, or stays at, a level (R206). -/
  | pin (k : Fin 5) (level : Bool)
  /-- The oscillator fails (61_traps.md R306). -/
  | oscFail
  /-- An accumulator overflows out of bit 31 and holds `result` (R286, R287). -/
  | accOverflow (acc : Acc) (result : AccVal)
  /-- An accumulator overflows out of bit 39 and holds `result` (R288, R289). -/
  | accCatastrophic (acc : Acc) (result : AccVal)
  /-- An accumulator operation without overflow leaves `result` and clears OA or OB (R292). -/
  | accResult (acc : Acc) (result : AccVal)
  /-- A divide by zero (R290). -/
  | divideByZero
  /-- An SFTAC whose shift exceeds 16 bits; the accumulator is unchanged (R291). -/
  | shiftError
  /-- A bit manipulation at an odd address or a MAC-class fetch from the wrong space (R297, R300). -/
  | dataAddressError
  /-- The DMA controller writes a byte of RAM without colliding (20_memory.md R118). -/
  | dmaWrite (addr : DAddr) (value : Byte)
  /-- A Reset from outside (70_reset_and_hazards.md R323). -/
  | reset (kind : ResetKind)
deriving DecidableEq, Repr

/-- What the environment does at one CPU step: its events before the step, and whether a DMA write collides with the
step's own write of data memory (61_traps.md R294). -/
structure Slot where
  events : List Event
  dmaCollision : Bool
deriving DecidableEq, Repr

/-- The machine. The fields marked MODEL are the model's own, the others the spec's. -/
structure State where
  /-- The program counter (10_state.md R20); its bits above PCW are 0. -/
  pc : PAddr
  /-- W0 to W15; W15 is the stack pointer (R23, R24). -/
  w : Vector Word 16
  /-- The stack limit register (R25). -/
  splim : Word
  /-- The hidden bit splim_written (R25). -/
  splimWritten : Bool
  /-- The CPU status register (R28). -/
  sr : Word
  /-- The core control register (R32). -/
  corcon : Word
  /-- Accumulator A (R27). -/
  accA : AccVal
  /-- Accumulator B (R27). -/
  accB : AccVal
  /-- The disable interrupts counter (R35). -/
  disicnt : BitVec 14
  /-- MODEL: DISICNT reads as any value until the next DISI (40_interrupt_instructions.md R153, U3; log 13). -/
  disicntUnspecified : Bool
  /-- Interrupt control register 1 (10_state.md R38). -/
  intcon1 : Word
  /-- Interrupt control register 2 (R42). -/
  intcon2 : Word
  /-- The interrupt control and status register (R45). -/
  inttreg : Word
  /-- IFS0 to IFS4 (11_interrupt_registers.md R74). -/
  ifs : Vector Word 5
  /-- IEC0 to IEC4 (R81). -/
  iec : Vector Word 5
  /-- IPC0 to IPC17 (R87). -/
  ipc : Vector Word 18
  /-- RCON<15>, TRAPR (10_state.md R47). -/
  trapr : Bool
  /-- OSCCON<3>, CF (R48). -/
  cf : Bool
  /-- The power mode (R51, 60_exceptions.md R240). -/
  mode : PowerMode
  /-- The previous levels of INT0 to INT4 (R51, R206). -/
  pins : BitVec 5
  /-- Instructions let through since a request won (R51, R216). -/
  skid : Nat
  /-- The temporary buffer's PC (R49). -/
  tempPc : PAddr
  /-- The temporary buffer's SRL (R49). -/
  tempSrl : Byte
  /-- Data memory other than the registers (20_memory.md R101). -/
  mem : Memory
  /-- Program memory (R100). -/
  prog : ProgMem
  /-- MODEL: sources whose priority was written on the fly, with the old priority (U1; log 29). -/
  stalePrio : List (Irq × BitVec 3)
  /-- MODEL: the parameters of the device (00_scope.md R7). -/
  device : Device
  /-- MODEL: what the environment will do, one slot a step; quiet after the last (log 8). -/
  env : List Slot
  /-- MODEL: counts steps; free values are drawn at it (log 7). -/
  tick : Nat
  /-- MODEL: counts device Resets; values a Reset leaves open are drawn at it (log 7). -/
  epoch : Nat
deriving DecidableEq, Repr

/-- Why the machine stops with a fault. -/
inductive Fault where
  /-- A hard trap raised while the CPU is at exactly that trap's level (61_traps.md R313, D13). Raised by every
  instruction, entry or event that raises a hard trap. Safe: no run passes through it. -/
  | sameLevelHardTrap
  /-- An eligible trap while the CPU is in Sleep or Idle and nothing wakes it (60_exceptions.md R244, D19). Raised by
  the power step. Safe: no run passes through it. -/
  | trapWhileAsleep
deriving DecidableEq, Repr

/-- Why the model has no meaning for what was fetched. -/
inductive Refusal where
  /-- An instruction of the opcode table without a meaning. Safe; no arm of `exec` answers it. -/
  | notModelled (mnemonic : String)
  /-- A fetched word that matches no row of the opcode map (30_encoding.md R136, D31). Raised by the fetch. Safe. -/
  | unlistedOpcode (w : PWord)
  /-- A GOTO whose second word has a bit of 23:7 set, so that the pair matches no row (R135, R136). Raised by the
  fetch. Safe. -/
  | malformedGoto (w2 : PWord)
  /-- PWRSAV while INTCON2.DISI = 1 (41_referenced_instructions.md R171, D19). Raised by PWRSAV. Safe. -/
  | pwrsavDuringDisi
deriving DecidableEq, Repr

/-- The result of a step. -/
abbrev Outcome := Host.Outcome State Fault Refusal

/-- The machine right after a power-on Reset (70_reset_and_hazards.md R320, 10_state.md R53, R54). Where the spec gives
no value: W0 to W14, SPLIM, the accumulators, TRAPR, CF, the pins and the temporary buffer are 0 (DESIGN CHOICE,
logs 11, 12, 14 to 18), no byte of memory is listed (logs 9, 10), the environment is quiet (log 8). -/
def State.reset : State where
  pc := 0x000000#23
  w := #v[0, 0, 0, 0, 0, 0, 0, 0, 0, 0, 0, 0, 0, 0, 0, 0x0800#16]
  splim := 0x0000#16
  splimWritten := false
  sr := 0x0000#16
  corcon := 0x0020#16
  accA := 0#40
  accB := 0#40
  disicnt := 0#14
  disicntUnspecified := false
  intcon1 := 0x0000#16
  intcon2 := 0x0000#16
  inttreg := 0x0000#16
  ifs := Vector.replicate 5 0x0000#16
  iec := Vector.replicate 5 0x0000#16
  ipc := Vector.ofFn (resetIpc defaultDevice)
  trapr := false
  cf := false
  mode := .run
  pins := 0#5
  skid := 0
  tempPc := 0#23
  tempSrl := 0#8
  mem := []
  prog := []
  stalePrio := []
  device := defaultDevice
  env := []
  tick := 0
  epoch := 0

end Sys2Proof.Machine
end

