-- ==== Sys2Proof/Machine/Flags.lean ====
section
/-! DEFINITION. The named bits of the status and control registers, the CPU priority level, the three fields of every
interrupt source and the status bits of the traps. No instruction of this spec computes an arithmetic flag
(10_state.md R31). -/

namespace Sys2Proof.Machine

/-! ### SR and CORCON -/

/-- SR.IPL<2:0> (10_state.md R28). -/
def State.ipl (s : State) : BitVec 3 := s.sr.extractLsb' 5 3

/-- CORCON.IPL3 (R33). -/
def State.ipl3 (s : State) : Bool := s.corcon.getLsbD 3

/-- `cpu_ipl()` = IPL3 : IPL<2:0>, 0 to 15 (60_exceptions.md R200). -/
def State.cpuIpl (s : State) : Level := BitVec.ofBool s.ipl3 ++ s.ipl

/-- SRL, the low byte of SR (R28). -/
def State.srl (s : State) : Byte := s.sr.extractLsb' 0 8

/-- SR.OA (R28). -/
def State.oa (s : State) : Bool := s.sr.getLsbD 15

/-- SR.OB (R28). -/
def State.ob (s : State) : Bool := s.sr.getLsbD 14

/-- A hardware write of IPL<2:0> (60_exceptions.md R230). -/
def State.setIpl (v : BitVec 3) (s : State) : State :=
  { s with sr := replaceBits s.sr (v.zeroExtend 16 <<< 5) 0x00E0#16 }

/-- A hardware write of IPL3 (R230). -/
def State.setIpl3 (b : Bool) (s : State) : State := { s with corcon := setBit s.corcon 3 b }

/-! ### INTCON1 and INTCON2 -/

/-- INTCON1.NSTDIS (10_state.md R38). -/
def State.nstdis (s : State) : Bool := s.intcon1.getLsbD 15

/-- INTCON1.OVATE (R38). -/
def State.ovate (s : State) : Bool := s.intcon1.getLsbD 10

/-- INTCON1.OVBTE (R38). -/
def State.ovbte (s : State) : Bool := s.intcon1.getLsbD 9

/-- INTCON1.COVTE (R38). -/
def State.covte (s : State) : Bool := s.intcon1.getLsbD 8

/-- Sets bit `i` of INTCON1 to 1. -/
def State.setIntcon1Bit (i : Nat) (s : State) : State := { s with intcon1 := setBit s.intcon1 i true }

/-- INTCON2.ALTIVT (R42). -/
def State.altivt (s : State) : Bool := s.intcon2.getLsbD 15

/-- INTCON2.DISI: a DISI period is running (R43). -/
def State.disiActive (s : State) : Bool := s.intcon2.getLsbD 14

/-- A hardware write of INTCON2.DISI (R43). -/
def State.setDisiActive (b : Bool) (s : State) : State := { s with intcon2 := setBit s.intcon2 14 b }

/-- INTCON2.INTkEP (R42). -/
def State.edgePolarity (s : State) (k : Fin 5) : Bool := s.intcon2.getLsbD k.val

/-! ### Interrupt sources (11_interrupt_registers.md R71) -/

/-- `flag(i)`: an unimplemented bit reads 0 (R71, R73). -/
def State.flag (s : State) (i : Irq) : Bool := hasSource s.device i && (s.ifs.get i.reg).getLsbD i.bit

/-- `en(i)` (R71, R73). -/
def State.en (s : State) (i : Irq) : Bool := hasSource s.device i && (s.iec.get i.reg).getLsbD i.bit

/-- `prio(i)` (R71, R73, R87). -/
def State.prio (s : State) (i : Irq) : BitVec 3 :=
  if hasSource s.device i then (s.ipc.get i.ipcReg).extractLsb' i.ipcLow 3 else 0#3

/-- The IFS registers with the flag of a source set, if the device has the source (60_exceptions.md R204). -/
def withFlag (d : Device) (i : Irq) (ifs : Vector Word 5) : Vector Word 5 :=
  if hasSource d i then ifs.set i.reg.val (setBit (ifs.get i.reg) i.bit true) i.reg.isLt else ifs

/-- The source's hardware sets its flag (R204). -/
def State.setFlag (i : Irq) (s : State) : State := { s with ifs := withFlag s.device i s.ifs }

/-- The interrupt request number of INTk (R206). -/
def extIrq (k : Fin 5) : Irq :=
  match k.val with
  | 0 => 0
  | 1 => 20
  | 2 => 29
  | 3 => 53
  | _ => 54

/-! ### Traps (61_traps.md R270) -/

/-- L(t). -/
def Trap.level : Trap → Level
  | .oscFail => 14#4
  | .addressError => 13#4
  | .stackError => 12#4
  | .mathError => 11#4
  | .dmacError => 10#4

/-- The vector number of a trap. -/
def Trap.vec : Trap → Nat
  | .oscFail => 1
  | .addressError => 2
  | .stackError => 3
  | .mathError => 4
  | .dmacError => 5

/-- The bit of INTCON1 that is the trap's status bit. -/
def Trap.bit : Trap → Nat
  | .oscFail => 1
  | .addressError => 3
  | .stackError => 2
  | .mathError => 4
  | .dmacError => 5

/-- Hard traps are the address error and the oscillator failure (R270, R310). -/
def Trap.isHard : Trap → Bool
  | .oscFail => true
  | .addressError => true
  | .stackError => false
  | .mathError => false
  | .dmacError => false

/-- Every trap, the highest level first. -/
def allTraps : List Trap := [.oscFail, .addressError, .stackError, .mathError, .dmacError]

/-- `tflag(t)` (R270). -/
def State.tflag (s : State) (t : Trap) : Bool := s.intcon1.getLsbD t.bit

/-- `tflag(t) <- 1` (R272). -/
def State.setTflag (t : Trap) (s : State) : State := s.setIntcon1Bit t.bit

/-- Sets a trap's status bit if a check failed. -/
def State.setTflagIf (failed : Bool) (t : Trap) (s : State) : State :=
  { s with intcon1 := if failed then setBit s.intcon1 t.bit true else s.intcon1 }

end Sys2Proof.Machine
end

