-- ==== Sys2Proof/Machine/Operands.lean ====
section
/-! DEFINITION. The operand forms (41_referenced_instructions.md R188): working registers, data words and bytes with the
registers that are mapped among them (20_memory.md R102), and the effective addresses formed from W15. -/

namespace Sys2Proof.Machine

/-! ### Working registers -/

/-- `x[r]` (00_scope.md R10). -/
def State.getW (s : State) (r : WReg) : Word := s.w.get r.toFin

/-- `x[r] <- v`; W15<0> is always 0 (10_state.md R24). -/
def State.setW (r : WReg) (v : Word) (s : State) : State :=
  { s with w := s.w.set r.toNat (if r = 15#4 then v &&& 0xFFFE#16 else v) r.isLt }

/-- W15, the stack pointer (R24). -/
def State.sp (s : State) : Word := s.getW 15#4

/-- A write of W15 by a push or a pop. -/
def State.setSp (v : Word) (s : State) : State := s.setW 15#4 v

/-- A register load by an instruction. A load of W15 with a value below 0x0800 raises the stack error trap or not, a
draw (61_traps.md R281, D23; log 31). -/
def State.loadW (r : WReg) (v : Word) (s : State) : State :=
  let t := s.setW r v
  t.setTflagIf (r == 15#4 && t.sp.ult 0x0800#16 && Config.freeLowLoad s.tick) .stackError

/-! ### The program counter -/

/-- Every write of the pc but a Reset: the address modulo 2^PCW (00_scope.md R7, 92_eei_decisions.md D5). -/
def State.setPc (a : PAddr) (s : State) : State := { s with pc := wrapPc s.device a }

/-- The address of the second program word of an instruction at the pc. -/
def State.secondWordAddr (s : State) : PAddr := wrapPc s.device (s.pc + 2#23)

/-- `pc + k` modulo 2^PCW (R187). -/
def State.advance (k : Nat) (s : State) : State := s.setPc (s.pc + BitVec.ofNat 23 k)

/-! ### Software reads of registers (20_memory.md R102, R113) -/

/-- What a word read of a register gives: unimplemented bits read 0 (00_scope.md R9); DISICNT in its unspecified
condition (U3), SPLIM before its first word write (U2), and the bits of RCON and OSCCON that the spec does not give
(logs 14, 15) read as any value. -/
def State.readSfr (r : Sfr) (a : DAddr) (s : State) : Word :=
  match r with
  | .w15 => s.sp
  | .splim => if s.splimWritten then s.splim else Config.freeRead s.tick a
  | .sr => s.sr
  | .corcon => s.corcon &&& 0x1FFF#16
  | .disicnt => if s.disicntUnspecified then Config.freeRead s.tick a &&& 0x3FFF#16 else s.disicnt.zeroExtend 16
  | .intcon1 => s.intcon1 &&& 0xFFFE#16
  | .intcon2 => s.intcon2 &&& 0xC01F#16
  | .inttreg => s.inttreg &&& 0x0F7F#16
  | .rcon => setBit (Config.freeRead s.tick a) 15 s.trapr
  | .osccon => setBit (Config.freeRead s.tick a) 3 s.cf
  | .ifs k => s.ifs.get k &&& sourceMask s.device k
  | .iec k => s.iec.get k &&& sourceMask s.device k
  | .ipc j => s.ipc.get j &&& ipcMask s.device j

/-! ### Software writes of registers

`be` selects the bits that the access writes: 0xFFFF for a word, 0x00FF or 0xFF00 for a byte (log 35). -/

/-- A software write by access code (00_scope.md R9): `rw` bits take the value, `rc` bits can only be cleared, the rest
stay. -/
def accessWrite (old v rw rc be : Word) : Word := replaceBits old v (rw &&& be) &&& ~~~(rc &&& be &&& ~~~v)

/-- SR bits that software writes: N, OV, Z, C, and IPL<2:0> while NSTDIS = 0 (10_state.md R28, R30). -/
def srWritable (nstdis : Bool) : Word := if nstdis then 0x000F#16 else 0x00EF#16

/-- A write of W15 through its data address: a load (log 31). -/
def State.writeSp (v be : Word) (s : State) : State := s.loadW 15#4 (replaceBits s.sp v be)

/-- A write of SPLIM; a word write arms the overflow check (R25). -/
def State.writeSplim (v be : Word) (s : State) : State :=
  { s with splim := replaceBits s.splim v be, splimWritten := s.splimWritten || be == 0xFFFF#16 }

/-- A write of SR (R30); SA, SB and SAB can only be cleared (R28). -/
def State.writeSr (v be : Word) (s : State) : State :=
  { s with sr := accessWrite s.sr v (srWritable s.nstdis) 0x3400#16 be }

/-- A write of CORCON (R32); IPL3 can only be cleared (R34). -/
def State.writeCorcon (v be : Word) (s : State) : State :=
  { s with corcon := accessWrite s.corcon v 0x18F7#16 0x0008#16 be }

/-- A write of DISICNT (40_interrupt_instructions.md R153). While no DISI period runs a non-zero value leaves DISICNT
unspecified until the next DISI (U3, log 13). -/
def State.writeDisicnt (v be : Word) (s : State) : State :=
  let n : BitVec 14 := (replaceBits (s.disicnt.zeroExtend 16) v be).extractLsb' 0 14
  { s with
    disicnt := if s.disiActive then n else 0#14
    disicntUnspecified := s.disicntUnspecified || (!s.disiActive && n != 0#14)
    intcon2 := if s.disiActive then setBit s.intcon2 14 (n != 0#14) else s.intcon2 }

/-- The clear of MATHERR is refused while an enabled accumulator overflow stands (61_traps.md R292, D28). -/
def State.mathClearBlocked (s : State) : Bool := (s.ovate && s.oa) || (s.ovbte && s.ob)

/-- A write of INTCON1 (10_state.md R38), with the condition on clearing MATHERR (R292). -/
def State.writeIntcon1 (v be : Word) (s : State) : State :=
  let t := accessWrite s.intcon1 v 0xFFFE#16 0x0000#16 be
  { s with intcon1 := if s.mathClearBlocked && s.tflag .mathError then setBit t 4 true else t }

/-- The IFS registers after a write that made INTCON2 `new`: INTkIF may be set where INTkEP changed (60_exceptions.md
R206, D26; log 30). -/
def State.glitch (new : Word) (s : State) (ifs : Vector Word 5) (k : Fin 5) : Vector Word 5 :=
  if s.edgePolarity k != new.getLsbD k.val && Config.freeGlitch s.tick k.val then withFlag s.device (extIrq k) ifs
  else ifs

/-- A write of INTCON2 (10_state.md R42); DISI is read-only (R43). -/
def State.writeIntcon2 (v be : Word) (s : State) : State :=
  let new := accessWrite s.intcon2 v 0x801F#16 0x0000#16 be
  { s with intcon2 := new, ifs := [0, 1, 2, 3, 4].foldl (s.glitch new) s.ifs }

/-- A write of RCON: 0 clears TRAPR (70_reset_and_hazards.md R324); what a 1 does while it is 0 is a draw (log 14). -/
def State.writeRcon (v be : Word) (s : State) : State :=
  { s with trapr := if be.getLsbD 15 then v.getLsbD 15 && (s.trapr || Config.freeTrapr s.tick) else s.trapr }

/-- A write of OSCCON: what it leaves in CF the spec does not say (10_state.md R48; log 15). -/
def State.writeOsccon (be : Word) (s : State) : State :=
  { s with cf := if be.getLsbD 3 then Config.freeCf s.tick else s.cf }

/-- A write of IFSk: software may clear and set flags (11_interrupt_registers.md R80). -/
def State.writeIfs (k : Fin 5) (v be : Word) (s : State) : State :=
  { s with ifs := s.ifs.set k.val (accessWrite (s.ifs.get k) v (sourceMask s.device k) 0x0000#16 be) k.isLt }

/-- A write of IECk (R81). -/
def State.writeIec (k : Fin 5) (v be : Word) (s : State) : State :=
  { s with iec := s.iec.set k.val (accessWrite (s.iec.get k) v (sourceMask s.device k) 0x0000#16 be) k.isLt }

/-- A source whose priority is written while it is enabled and interrupts are not held off by the CPU level
(70_reset_and_hazards.md R340, U1). A DISI period that still runs at the next arbitration masks both values there. -/
def State.stalesAt (old new : State) (i : Irq) : Bool :=
  old.en i && old.cpuIpl.ult 7#4 && old.prio i != new.prio i

/-- A write of IPCj (R87); priorities changed on the fly are noted with their old values (R91; log 29). -/
def State.writeIpc (j : Fin 18) (v be : Word) (s : State) : State :=
  let t := { s with ipc := s.ipc.set j.val (accessWrite (s.ipc.get j) v (ipcMask s.device j) 0x0000#16 be) j.isLt }
  let noted := ((List.finRange 72).filter (s.stalesAt t)).map fun i => (i, s.prio i)
  { t with stalePrio := noted ++ t.stalePrio }

/-- A software write of a register (20_memory.md R102). -/
def State.writeSfr (r : Sfr) (v be : Word) (s : State) : State :=
  match r with
  | .w15 => s.writeSp v be
  | .splim => s.writeSplim v be
  | .sr => s.writeSr v be
  | .corcon => s.writeCorcon v be
  | .disicnt => s.writeDisicnt v be
  | .intcon1 => s.writeIntcon1 v be
  | .intcon2 => s.writeIntcon2 v be
  | .inttreg => s
  | .rcon => s.writeRcon v be
  | .osccon => s.writeOsccon be
  | .ifs k => s.writeIfs k v be
  | .iec k => s.writeIec k v be
  | .ipc j => s.writeIpc j v be

/-! ### Data memory -/

/-- The byte of RAM at an address; one that nothing has written since the last Reset reads as any value, chosen once at
that Reset (U11; log 9). -/
def State.ramByte (s : State) (a : DAddr) : Byte := (storeGet s.mem a.toNat).getD (Config.ramByte s.epoch a)

/-- Writes a byte of RAM. -/
def State.setRamByte (a : DAddr) (v : Byte) (s : State) : State := { s with mem := storeSet s.mem a.toNat v }

/-- A word of RAM, little-endian (20_memory.md R109, D1). -/
def State.ramWord (s : State) (a : DAddr) : Word := s.ramByte (a + 1) ++ s.ramByte a

/-- Writes a word of RAM, little-endian. -/
def State.setRamWord (a : DAddr) (v : Word) (s : State) : State :=
  (s.setRamByte a (v.extractLsb' 0 8)).setRamByte (a + 1) (v.extractLsb' 8 8)

/-- A word access that raises the address error trap: a misaligned or unimplemented address (61_traps.md R296, R300). -/
def State.wordBad (s : State) (a : DAddr) : Bool := a.getLsbD 0 || !dataImplemented s.device a

/-- A byte access that raises the address error trap: an unimplemented address (R300); it may be odd (R110). -/
def State.byteBad (s : State) (a : DAddr) : Bool := !dataImplemented s.device a

/-- `MemRead(a, 2)` at an address that is not bad. -/
def State.dataWord (s : State) (a : DAddr) : Word :=
  match sfrAt s.device a with
  | some r => s.readSfr r a
  | none => s.ramWord a

/-- `MemRead(a, 2)`: at a bad address the trap's status bit is set and the value is any value (R296, R300, U5, U15). -/
def State.readWord (a : DAddr) (s : State) : Word × State :=
  if s.wordBad a then (Config.freeRead s.tick a, s.setTflag .addressError) else (s.dataWord a, s)

/-- `MemWrite(a, 2, v)` at an address that is not bad. -/
def State.putWord (a : DAddr) (v : Word) (s : State) : State :=
  match sfrAt s.device a with
  | some r => s.writeSfr r v 0xFFFF#16
  | none => s.setRamWord a v

/-- `MemWrite(a, 2, v)`: at a bad address the trap's status bit is set; it writes nothing there, and nothing either if
`inhibit` says that another access of the same instruction is bad (R303, D27). -/
def State.writeWord (inhibit : Bool) (a : DAddr) (v : Word) (s : State) : State :=
  if s.wordBad a then s.setTflag .addressError
  else if inhibit then s
  else s.putWord a v

/-- The bits of a word that its byte at `a` holds. -/
def byteLanes (a : DAddr) : Word := if a.getLsbD 0 then 0xFF00#16 else 0x00FF#16

/-- `MemWrite(a, 1, v)` at an address that is not bad: a byte of RAM, or one half of a register (R109; log 35). -/
def State.putByte (a : DAddr) (v : Byte) (s : State) : State :=
  match sfrAt s.device (wordAddr a) with
  | some r => s.writeSfr r (v ++ v) (byteLanes a)
  | none => s.setRamByte a v

/-- `MemWrite(a, 1, v)` (R300). -/
def State.writeByte (a : DAddr) (v : Byte) (s : State) : State :=
  if s.byteBad a then s.setTflag .addressError else s.putByte a v

/-- A word or byte access at `a` reaches DISICNT (40_interrupt_instructions.md R152, R153). -/
def State.hitsDisicnt (s : State) (a : DAddr) : Bool := sfrAt s.device (wordAddr a) == some .disicnt

/-! ### The stack (20_memory.md R115) -/

/-- An effective address from W15 that raises the stack error trap: below 0x0800, or above SPLIM once it has been
written (61_traps.md R280 to R282). -/
def State.stackBad (s : State) (ea : DAddr) : Bool :=
  ea.ult 0x0800#16 || (s.splimWritten && s.splim.ult ea)

/-- `MemWrite(x[15], 2, v)` and then `x[15] <- x[15] + 2`, with the stack checks: the address, and the wrap past 0xFFFF
(R283). A failed check does not suppress the access and sets STKERR after it (R284). -/
def State.pushWord (inhibit : Bool) (v : Word) (s : State) : State :=
  let t := s.writeWord inhibit s.sp v
  (t.setTflagIf (s.stackBad s.sp || decide (0xFFFE ≤ t.sp.toNat)) .stackError).setSp (t.sp + 2#16)

/-- `x[15] <- x[15] - 2` and then `MemRead(x[15], 2)`, with the stack checks (R281 to R283). -/
def State.popWord (s : State) : Word × State :=
  let ea := s.sp - 2#16
  let r := (s.setSp ea).readWord ea
  (r.1, r.2.setTflagIf (s.stackBad ea || decide (s.sp.toNat < 2)) .stackError)

end Sys2Proof.Machine
end

