-- ==== Sys2Proof/Machine/Ops.lean ====
section
/-! DEFINITION. The shared operations: the countdown of DISICNT, the device Reset, raising a trap, taking an exception and
returning from one, and program memory. -/

namespace Sys2Proof.Machine

/-! ### The countdown (40_interrupt_instructions.md R152) -/

/-- The cycles a step of this kind takes: one element of its cycle set (D7; log 5). -/
def State.drawCycles (k : StepKind) (s : State) : Nat := drawFrom (cycleSet s.device k) (Config.freeCycles s.tick)

/-- `DISICNT <- max(0, DISICNT - c)`, and the end of the DISI period when a count that was not 0 becomes 0 (R152). -/
def State.countDown (c : Nat) (s : State) : State :=
  { s with
    disicnt := BitVec.ofNat 14 (s.disicnt.toNat - c)
    intcon2 := if s.disicnt != 0#14 && decide (s.disicnt.toNat ≤ c) then setBit s.intcon2 14 false else s.intcon2 }

/-- The countdown after a step of this kind. -/
def State.countStep (k : StepKind) (s : State) : State := s.countDown (s.drawCycles k)

/-- The countdown after an instruction: none if it wrote DISICNT (R152). -/
def State.finish (k : StepKind) (wroteDisicnt : Bool) (s : State) : State :=
  if wroteDisicnt then s else s.countStep k

/-! ### Reset (70_reset_and_hazards.md R320) -/

/-- W0 to W15 after a device Reset: W15 is 0x0800, the others any value chosen at that Reset (U11; log 11). -/
def resetRegisters (epoch : Nat) : Vector Word 16 :=
  Vector.ofFn fun r : Fin 16 => if r = 15 then 0x0800#16 else Config.resetW epoch r.val

/-- `device_reset(kind)`. Program memory, the device, the pins and the environment's schedule are not changed; what the
spec leaves unspecified takes any value, chosen once at this Reset (D4, D22, U11, U16; log 42). -/
def deviceReset (kind : ResetKind) (s : State) : State :=
  let e := s.epoch + 1
  { s with
    pc := 0x000000#23
    w := resetRegisters e
    splim := Config.resetSplim e
    splimWritten := false
    sr := 0x0000#16
    corcon := 0x0020#16
    accA := Config.resetAccA e
    accB := Config.resetAccB e
    disicnt := 0#14
    disicntUnspecified := false
    intcon1 := 0x0000#16
    intcon2 := 0x0000#16
    inttreg := 0x0000#16
    ifs := Vector.replicate 5 0x0000#16
    iec := Vector.replicate 5 0x0000#16
    ipc := Vector.ofFn (resetIpc s.device)
    trapr := kind == .trapConflict || Config.resetTrapr e
    cf := Config.resetCf e
    mode := .run
    skid := 0
    mem := []
    stalePrio := []
    epoch := e }

/-! ### Raising a trap (61_traps.md R272) -/

/-- What the check of a hard trap finds. -/
inductive HardCheck where
  | clear | conflict | sameLevel
deriving DecidableEq, Repr

/-- The hard-trap conflict check: a higher trap is pending or the CPU is above the trap's level (R312), or the CPU is at
exactly its level (R313). -/
def hardCheck (t : Trap) (s : State) : HardCheck :=
  if (allTraps.any fun u => t.level.ult u.level && s.tflag u) || t.level.ult s.cpuIpl then .conflict
  else if s.cpuIpl = t.level then .sameLevel
  else .clear

/-- Raising a hard trap in the state `s`: a device Reset, a fault, or on to `after`, in which its status bit is set. -/
def raiseHard (t : Trap) (s after : State) : Outcome :=
  match hardCheck t s with
  | .conflict => .next (deviceReset .trapConflict s)
  | .sameLevel => .fault .sameLevelHardTrap
  | .clear => .next after

/-- The end of a step that began in `s` and had the effects of `after`: if it raised the address error trap, the check of
R272 on the state it began in, which no access before the raise can change in a way the check sees. -/
def settle (addressError : Bool) (s after : State) : Outcome :=
  if addressError then raiseHard .addressError s after else .next after

/-! ### Program memory (20_memory.md R100) -/

/-- `PMRead(a)`; a word that the program image does not give is any value (log 10). -/
def State.progWord (s : State) (a : PAddr) : PWord := (storeGet s.prog a.toNat).getD (Config.progWord a)

/-- A program address from a 24-bit word: bits 22:1, bit 0 forced to 0, bit 23 ignored (R106, D5). -/
def vectorTarget (v : PWord) : PAddr := v.extractLsb' 1 22 ++ 0#1

/-- The address of a vector in the table that ALTIVT selects (R106, R107, 60_exceptions.md R225). -/
def State.vectorAddr (s : State) (vec : Nat) : PAddr :=
  (if s.altivt then 0x000104#23 else 0x000004#23) + BitVec.ofNat 23 (2 * vec)

/-- The pc after a program-side address error: any even address (61_traps.md R298, R299, U6; log 37). -/
def State.losePc (s : State) : State := s.setPc (Config.freePc s.tick ++ 0#1)

/-! ### Taking an exception (60_exceptions.md R220 to R228) -/

/-- A request that the arbitration can hand to the CPU: a trap, or a source with the priority it won with. -/
inductive Request where
  | trap (t : Trap)
  | irq (i : Irq) (prio : BitVec 3)
deriving DecidableEq, Repr

/-- The vector number of a request (00_scope.md R11, 61_traps.md R270). -/
def Request.vec : Request → Nat
  | .trap t => t.vec
  | .irq i _ => i.val + 8

/-- The priority level of a request. -/
def Request.level : Request → Level
  | .trap t => t.level
  | .irq _ p => p.zeroExtend 4

/-- Only hard traps are taken without delay (R217). -/
def Request.isHard : Request → Bool
  | .trap t => t.isHard
  | .irq _ _ => false

/-- The first word of the exception frame: PC<15:0> (R222). -/
def State.frameLow (s : State) : Word := s.pc.extractLsb' 0 16

/-- The second word of the exception frame: SRL : IPL3 : PC<22:16> (R222). -/
def State.frameHigh (s : State) : Word := s.srl ++ BitVec.ofBool s.ipl3 ++ s.pc.extractLsb' 16 7

/-- The new priority (R223): an interrupt writes its level into IPL<2:0>, or 111 if NSTDIS is set; a trap sets IPL3 and
writes the low three bits of its level (D10; log 24). -/
def State.enterPriority (r : Request) (s : State) : State :=
  match r with
  | .irq _ p => s.setIpl (if s.nstdis then 7#3 else p)
  | .trap t => (s.setIpl3 true).setIpl (t.level.extractLsb' 0 3)

/-- The value of VECNUM that an entry latches: the irq number, or any value for a trap (R226, U4; log 25). -/
def Request.vecnum (tick : Nat) : Request → BitVec 7
  | .irq i _ => BitVec.ofNat 7 i.val
  | .trap _ => Config.freeVecnum tick

/-- INTTREG<11:8> is ILR and INTTREG<6:0> is VECNUM (10_state.md R45, R226). -/
def inttregWord (lvl : Level) (vecnum : BitVec 7) : Word := 0#4 ++ lvl ++ 0#1 ++ vecnum

/-- PC and SRL go to the temporary buffer (10_state.md R49). -/
def State.latchTemp (s : State) : State := { s with tempPc := s.pc, tempSrl := s.srl }

/-- The state between the two pushes of the frame, as far as the second one's address goes: W15 has moved, or holds what
the first push wrote there and has moved (log 36). -/
def State.afterFirstPush (s : State) : State := s.latchTemp.pushWord (s.wordBad s.sp) s.frameLow

/-- The address of the second word of the frame. -/
def State.secondPushAddr (s : State) : DAddr := s.afterFirstPush.sp

/-- A push of the frame goes to a misaligned or unimplemented address (R228). -/
def State.entryBad (s : State) : Bool := s.wordBad s.sp || s.wordBad s.secondPushAddr

/-- Both pushes of the frame, with the values at the moment of the acknowledge (R222); an address error on one of them
inhibits both writes (61_traps.md R303). -/
def State.pushFrame (s : State) : State :=
  ((s.latchTemp.pushWord s.entryBad s.frameLow).pushWord s.entryBad s.frameHigh).setTflagIf s.entryBad .addressError

/-- The state after an exception entry whose pushes raise no conflict (R227). -/
def State.afterEntry (r : Request) (s : State) : State :=
  let s1 := s.pushFrame.enterPriority r
  let s2 := { s1 with inttreg := inttregWord r.level (r.vecnum s.tick) }
  let s3 := { s2.setPc (vectorTarget (s2.progWord (s2.vectorAddr r.vec))) with mode := .run, skid := 0 }
  s3.countStep .entry

/-- `exception_entry(w)` (R227), with the checks of R228 on its pushes. -/
def exceptionEntry (r : Request) (s : State) : Outcome := settle s.entryBad s (s.afterEntry r)

/-! ### Returning (40_interrupt_instructions.md R154, 41_referenced_instructions.md R174) -/

/-- The two words on top of the stack, the last pushed first, and the state after popping them. -/
def State.popFrame (s : State) : Word × Word × State :=
  let (hi, s1) := s.popWord
  let (lo, s2) := s1.popWord
  (hi, lo, s2)

/-- A pop of the frame reads a misaligned or unimplemented address. -/
def State.returnBad (s : State) : Bool := s.wordBad (s.sp - 2#16) || s.wordBad (s.sp - 2#16 - 2#16)

/-- `pc <- hi[6:0] : lo[15:1] : 0` (R154, R174). -/
def frameTarget (hi lo : Word) : PAddr := hi.extractLsb' 0 7 ++ lo.extractLsb' 1 15 ++ 0#1

/-- The SRL and IPL3 of a frame go back into SR and CORCON, whatever NSTDIS is (R154, 60_exceptions.md R230). -/
def State.restoreStatus (hi : Word) (s : State) : State :=
  ({ s with sr := replaceBits s.sr (hi >>> 8) 0x00FF#16 }).setIpl3 (hi.getLsbD 7)

/-- The return from an exception (R154). -/
def returnFromException (s : State) : Outcome :=
  let (hi, lo, t) := s.popFrame
  settle s.returnBad s
    (((t.restoreStatus hi).setPc (frameTarget hi lo)).finish .retfie false)

end Sys2Proof.Machine
end

