-- ==== Sys2Proof/Machine/Arbiter.lean ====
section
/-! DEFINITION. Eligibility, the winner of an arbitration, and the wake-up condition (60_exceptions.md R210 to R214,
R241). -/

namespace Sys2Proof.Machine

/-- The priority that an arbitration uses for a source: `prio(i)`, or the old or the new value, a draw, if it was written
on the fly since the last arbitration (70_reset_and_hazards.md R340, U1; log 29). -/
def State.arbPrio (s : State) (i : Irq) : BitVec 3 :=
  match s.stalePrio.lookup i with
  | some old => if Config.freeStale s.tick i.val then old else s.prio i
  | none => s.prio i

/-- `eligible(i)` (R212). -/
def State.eligible (s : State) (i : Irq) : Bool :=
  s.flag i && s.en i && s.cpuIpl.ult ((s.arbPrio i).zeroExtend 4) && !(s.disiActive && (s.arbPrio i).ule 6#3)

/-- `t_eligible(t)` (R212). -/
def State.trapEligible (s : State) (t : Trap) : Bool := s.tflag t && s.cpuIpl.ult t.level

/-- The better of the best source so far and the next one in natural order (R213): a strictly higher priority. -/
def State.better (s : State) (best : Option (Irq × BitVec 3)) (i : Irq) : Option (Irq × BitVec 3) :=
  if s.eligible i then
    match best with
    | none => some (i, s.arbPrio i)
    | some b => if b.2.ult (s.arbPrio i) then some (i, s.arbPrio i) else best
  else best

/-- The eligible source of the greatest priority, the least irq among equals (R214). -/
def State.irqWinner (s : State) : Option (Irq × BitVec 3) := (List.finRange 72).foldl s.better none

/-- The eligible trap of the greatest level (R214). -/
def State.trapWinner (s : State) : Option Trap := allTraps.find? s.trapEligible

/-- `winner()` (R214): traps before interrupts. -/
def State.winner (s : State) : Option Request :=
  match s.trapWinner with
  | some t => some (.trap t)
  | none =>
    match s.irqWinner with
    | some b => some (.irq b.1 b.2)
    | none => none

/-- A source that can wake the CPU: flagged, enabled, of priority at least 1, whatever the CPU level (R241). -/
def State.wakes (s : State) (i : Irq) : Bool := s.flag i && s.en i && s.prio i != 0#3

/-- `wake()` (R241). -/
def State.wake (s : State) : Bool := (List.finRange 72).any s.wakes

end Sys2Proof.Machine
end

