-- ==== Sys2Proof/Machine/Control.lean ====
section
/-! DEFINITION. The meanings of NOP, GOTO, BRA and RETURN (41_referenced_instructions.md). -/

namespace Sys2Proof.Machine

/-- A jump of GOTO or BRA to a target, taken modulo 2^PCW: an unimplemented target raises the address error trap, and the pc is then any even address
(61_traps.md R298). -/
def jumpTo (k : StepKind) (target : PAddr) (s : State) : Outcome :=
  if progImplemented s.device (wrapPc s.device target) then .next ((s.setPc target).finish k false)
  else settle true s ((s.setTflag .addressError).losePc.finish k false)

/-- The target of BRA: `pc + 2 + 2 * sext_23(Slit16)` (30_encoding.md R134); the jump takes it modulo 2^PCW. -/
def braTarget (pc : PAddr) (offset : BitVec 16) : PAddr := pc + 2#23 + 2#23 * offset.signExtend 23

/-- NOP (R175). -/
def execNop (_ignored : BitVec 16) (s : State) : Outcome := .next ((s.advance 2).finish .nop false)

/-- GOTO Expr (R172); bit 0 of the target is 0 (30_encoding.md R134). -/
def execGoto (target : PAddr) (s : State) : Outcome := jumpTo .goto (target &&& 0x7FFFFE#23) s

/-- BRA Expr (R173). -/
def execBra (offset : BitVec 16) (s : State) : Outcome := jumpTo .bra (braTarget s.pc offset) s

/-- RETURN (R174): as RETFIE but SRL and IPL3 stay. -/
def execRet (s : State) : Outcome :=
  let (hi, lo, t) := s.popFrame
  settle s.returnBad s ((t.setPc (frameTarget hi lo)).finish .ret false)

end Sys2Proof.Machine
end

