-- ==== Sys2Proof/Machine/Interrupt.lean ====
section
/-! DEFINITION. The meanings of DISI and RETFIE (40_interrupt_instructions.md). -/

namespace Sys2Proof.Machine

/-- DISI #lit14 (R151): loads DISICNT, starts or ends the DISI period, and does not count down in this step. -/
def execDisi (lit : BitVec 14) (s : State) : Outcome :=
  .next ((({ s with disicnt := lit, disicntUnspecified := false }).setDisiActive (lit != 0#14)).advance 2)

/-- RETFIE (R154). -/
def execRetfie (s : State) : Outcome := returnFromException s

end Sys2Proof.Machine
end

