-- ==== Sys2Proof/Machine/Move.lean ====
section
/-! DEFINITION. The meanings of CLR f and the MOV forms (41_referenced_instructions.md R178 to R181). -/

namespace Sys2Proof.Machine

/-- CLR f: a word write of 0 (R178). -/
def clearWord (a : DAddr) (s : State) : Outcome :=
  settle (s.wordBad a) s
    (((s.writeWord false a 0x0000#16).advance 2).finish .clr (!s.wordBad a && s.hitsDisicnt a))

/-- CLR.B f: a byte write of 0 (R178). -/
def clearByte (a : DAddr) (s : State) : Outcome :=
  settle (s.byteBad a) s
    (((s.writeByte a 0x00#8).advance 2).finish .clr (!s.byteBad a && s.hitsDisicnt a))

/-- CLR WREG: W0, or its low byte (R178). -/
def clearWreg (byteOp : Bool) (s : State) : Outcome :=
  .next (((s.loadW 0#4 (if byteOp then s.getW 0#4 &&& 0xFF00#16 else 0x0000#16)).advance 2).finish .clr false)

/-- CLR f, CLR.B f and CLR WREG (R178). -/
def execClr (byteOp toFile : Bool) (f : BitVec 13) (s : State) : Outcome :=
  if !toFile then clearWreg byteOp s
  else if byteOp then clearByte (f.zeroExtend 16) s
  else clearWord (f.zeroExtend 16) s

/-- MOV #lit16,Wnd (R179). -/
def execMovLit (lit : Word) (d : WReg) (s : State) : Outcome :=
  .next (((s.loadW d lit).advance 2).finish .movLit false)

/-- MOV Wns,f (R180); the write is a software write (20_memory.md R102). -/
def execMovToFile (ws : WReg) (f : DAddr) (s : State) : Outcome :=
  settle (s.wordBad f) s
    (((s.writeWord false f (s.getW ws)).advance 2).finish .movToFile (!s.wordBad f && s.hitsDisicnt f))

/-- MOV f,Wnd (R181); after an address error the register holds any value (61_traps.md R303, U15). -/
def execMovToReg (f : DAddr) (d : WReg) (s : State) : Outcome :=
  let (v, s1) := s.readWord f
  settle (s.wordBad f) s (((s1.loadW d v).advance 2).finish .movToReg false)

end Sys2Proof.Machine
end

