-- ==== Sys2Proof/Machine/Stack.lean ====
section
/-! DEFINITION. The meanings of PUSH f and POP f (41_referenced_instructions.md R176, R177). -/

namespace Sys2Proof.Machine

/-- PUSH f (R176). -/
def execPush (f : DAddr) (s : State) : Outcome :=
  let bad := s.wordBad f || s.wordBad s.sp
  let (v, s1) := s.readWord f
  settle bad s (((s1.pushWord bad v).advance 2).finish .push (!bad && s.hitsDisicnt s.sp))

/-- POP f (R177); the write of f is a software write (20_memory.md R102). -/
def execPop (f : DAddr) (s : State) : Outcome :=
  let bad := s.wordBad (s.sp - 2#16) || s.wordBad f
  let (v, s1) := s.popWord
  settle bad s (((s1.writeWord bad f v).advance 2).finish .pop (!bad && s.hitsDisicnt f))

end Sys2Proof.Machine
end

