-- ==== Sys2Proof/Machine/System.lean ====
section
/-! DEFINITION. The meanings of RESET and PWRSAV (41_referenced_instructions.md R170, R171). -/

namespace Sys2Proof.Machine

/-- RESET (R170). -/
def execReset (s : State) : Outcome := .next (deviceReset .software s)

/-- PWRSAV #lit1 (R171): 0 is Sleep, 1 is Idle; refused during a DISI period (D19). -/
def execPwrsav (lit : BitVec 1) (s : State) : Outcome :=
  if s.disiActive then .refused .pwrsavDuringDisi
  else .next (({ s.advance 2 with mode := if lit = 0#1 then .sleep else .idle }).finish .pwrsav false)

end Sys2Proof.Machine
end

