-- ==== Sys2Proof/Machine/Dispatch.lean ====
section
/-! DEFINITION. The meaning of every instruction: one arm per constructor. -/

namespace Sys2Proof.Machine

def exec (i : Instr) (s : State) : Host.Outcome State Fault Refusal :=
  match i with
  | .nop ignored => Sys2Proof.Machine.execNop ignored s
  | .goto target => Sys2Proof.Machine.execGoto target s
  | .ret => Sys2Proof.Machine.execRet s
  | .retfie => Sys2Proof.Machine.execRetfie s
  | .movLit lit d => Sys2Proof.Machine.execMovLit lit d s
  | .bra offset => Sys2Proof.Machine.execBra offset s
  | .movToReg f d => Sys2Proof.Machine.execMovToReg f d s
  | .movToFile ws f => Sys2Proof.Machine.execMovToFile ws f s
  | .clr byteOp toFile f => Sys2Proof.Machine.execClr byteOp toFile f s
  | .push f => Sys2Proof.Machine.execPush f s
  | .pop f => Sys2Proof.Machine.execPop f s
  | .disi lit => Sys2Proof.Machine.execDisi lit s
  | .reset => Sys2Proof.Machine.execReset s
  | .pwrsav lit => Sys2Proof.Machine.execPwrsav lit s

end Sys2Proof.Machine
end

