-- ==== Sys2Proof/Machine/Events.lean ====
section
/-! DEFINITION. What the other agents do between two CPU steps (20_memory.md R117). -/

namespace Sys2Proof.Machine

/-- A change, or none, of the level of pin INTk (60_exceptions.md R206): the edge that INTkEP selects sets the flag. -/
def State.pinEvent (k : Fin 5) (level : Bool) (s : State) : State :=
  let prev := s.pins.getLsbD k.val
  let edge := if s.edgePolarity k then prev && !level else !prev && level
  { s with
    ifs := if edge then withFlag s.device (extIrq k) s.ifs else s.ifs
    pins := (s.pins &&& ~~~(1#5 <<< k.val)) ||| (if level then 1#5 <<< k.val else 0#5) }

/-- An accumulator takes a value. -/
def State.setAcc (acc : Acc) (v : AccVal) (s : State) : State :=
  match acc with
  | .a => { s with accA := v }
  | .b => { s with accB := v }

/-- SR.OA or SR.OB. -/
def Acc.srBit : Acc → Nat
  | .a => 15
  | .b => 14

/-- OVATE or OVBTE (61_traps.md R286, R287). -/
def State.overflowEnabled (s : State) : Acc → Bool
  | .a => s.ovate
  | .b => s.ovbte

/-- OVAERR or OVBERR. -/
def Acc.overflowBit : Acc → Nat
  | .a => 14
  | .b => 13

/-- COVAERR or COVBERR (R288, R289). -/
def Acc.catastrophicBit : Acc → Nat
  | .a => 12
  | .b => 11

/-- INTCON1 with a cause bit and MATHERR set (R285). -/
def mathCause (causeBit : Nat) (w : Word) : Word := setBit (setBit w causeBit true) Trap.mathError.bit true

/-- A math error that no bit enables (R290, R291). -/
def State.mathError (causeBit : Nat) (s : State) : State := { s with intcon1 := mathCause causeBit s.intcon1 }

/-- An overflow out of bit 31: OA or OB is set, and the trap raised if it is enabled (R286, R287, G11). -/
def State.accOverflow (acc : Acc) (v : AccVal) (s : State) : State :=
  { s.setAcc acc v with
    sr := setBit s.sr acc.srBit true
    intcon1 := if s.overflowEnabled acc then mathCause acc.overflowBit s.intcon1 else s.intcon1 }

/-- An overflow out of bit 39 (R288, R289). -/
def State.accCatastrophic (acc : Acc) (v : AccVal) (s : State) : State :=
  { s.setAcc acc v with intcon1 := if s.covte then mathCause acc.catastrophicBit s.intcon1 else s.intcon1 }

/-- An accumulator operation without overflow clears OA or OB (R292). -/
def State.accResult (acc : Acc) (v : AccVal) (s : State) : State :=
  { s.setAcc acc v with sr := setBit s.sr acc.srBit false }

/-- A DMA write reaches RAM only: an implemented address that is no register (20_memory.md R118; log 39). -/
def State.dmaWrite (a : DAddr) (v : Byte) (s : State) : State :=
  if dataImplemented s.device a && (sfrAt s.device (wordAddr a)).isNone then s.setRamByte a v else s

/-- One event. -/
def applyEvent (e : Event) (s : State) : Outcome :=
  match e with
  | .fire i => .next (s.setFlag i)
  | .pin k level => .next (s.pinEvent k level)
  | .oscFail => raiseHard .oscFail s ({ s with cf := true }.setTflag .oscFail)
  | .accOverflow acc v => .next (s.accOverflow acc v)
  | .accCatastrophic acc v => .next (s.accCatastrophic acc v)
  | .accResult acc v => .next (s.accResult acc v)
  | .divideByZero => .next (s.mathError 6)
  | .shiftError => .next (s.mathError 7)
  | .dataAddressError => raiseHard .addressError s (s.setTflag .addressError)
  | .dmaWrite a v => .next (s.dmaWrite a v)
  | .reset kind => .next (deviceReset kind s)

/-- The events of a slot, in order. -/
def applyEvents : List Event → State → Outcome
  | [], s => .next s
  | e :: es, s =>
    match applyEvent e s with
    | .next t => applyEvents es t
    | .fault f => .fault f
    | .refused r => .refused r

end Sys2Proof.Machine
end

