-- ==== Sys2Proof/Machine/Cycle.lean ====
section
/-! DEFINITION. The CPU step (60_exceptions.md R215): fetch, arbitration, the power step, the slot of the environment, and
how an instruction's words are placed where the step fetches them. -/

namespace Sys2Proof.Machine

/-! ### Fetch -/

/-- The words at the pc: an instruction has at most two (30_encoding.md R132). -/
def State.fetchWords (s : State) : List PWord := [s.progWord s.pc, s.progWord s.secondWordAddr]

/-- The refusal of words that are no instruction (30_encoding.md R136). -/
def refuseWords (first : PWord) : DecodeError → Outcome
  | .noWord => .refused (.unlistedOpcode first)
  | .unlisted w => .refused (.unlistedOpcode w)
  | .missingGotoWord => .refused (.unlistedOpcode first)
  | .badGotoWord w2 => .refused (.malformedGoto w2)

/-! ### DMA collisions (61_traps.md R294) -/

/-- The result with a change made to its next state. -/
def mapNext (f : State → State) : Outcome → Outcome
  | .next s => .next (f s)
  | .fault r => .fault r
  | .refused r => .refused r

/-- The address an instruction stores to through the data space, if it stores. -/
def storeAddr (i : Instr) (s : State) : Option DAddr :=
  match i with
  | .push _ => some s.sp
  | .pop f => some f
  | .movToFile _ f => some f
  | .clr _ true f => some (f.zeroExtend 16)
  | .clr _ false _ => none
  | .nop _ => none
  | .goto _ => none
  | .ret => none
  | .retfie => none
  | .movLit _ _ => none
  | .bra _ => none
  | .movToReg _ _ => none
  | .disi _ => none
  | .reset => none
  | .pwrsav _ => none

/-- An access of the instruction raises the address error trap. -/
def accessBad (i : Instr) (s : State) : Bool :=
  match i with
  | .push f => s.wordBad f || s.wordBad s.sp
  | .pop f => s.wordBad (s.sp - 2#16) || s.wordBad f
  | .movToFile _ f => s.wordBad f
  | .movToReg f _ => s.wordBad f
  | .clr true true f => s.byteBad (f.zeroExtend 16)
  | .clr false true f => s.wordBad (f.zeroExtend 16)
  | .clr _ false _ => false
  | .ret => s.returnBad
  | .retfie => s.returnBad
  | .nop _ => false
  | .goto _ => false
  | .movLit _ _ => false
  | .bra _ => false
  | .disi _ => false
  | .reset => false
  | .pwrsav _ => false

/-- The instruction writes data memory that is no register. -/
def writesRam (i : Instr) (s : State) : Bool :=
  !accessBad i s && (storeAddr i s).any fun a => (sfrAt s.device (wordAddr a)).isNone

/-- The entry writes data memory that is no register: the first or the second word of its frame. -/
def entryWritesRam (s : State) : Bool :=
  !s.entryBad
    && ((sfrAt s.device (wordAddr s.sp)).isNone || (sfrAt s.device (wordAddr s.secondPushAddr)).isNone)

/-- A collision that accompanies a write of data memory raises the DMAC error trap; the CPU's write stands (R294). -/
def withCollision (happens : Bool) (r : Outcome) : Outcome :=
  if happens then mapNext (State.setTflag .dmacError) r else r

/-! ### The CPU step -/

/-- `execute_instruction()` (60_exceptions.md R215, 61_traps.md R299). -/
def executeInstruction (collision : Bool) (s : State) : Outcome :=
  if !progImplemented s.device s.pc then
    settle true s ((s.setTflag .addressError).losePc.finish .fetchError false)
  else
    match decode s.fetchWords with
    | .ok i _ => withCollision (collision && writesRam i s) (exec i s)
    | .reject why => refuseWords (s.progWord s.pc) why

/-- An exception entry as a CPU step. -/
def enterException (collision : Bool) (r : Request) (s : State) : Outcome :=
  withCollision (collision && entryWritesRam s) (exceptionEntry r s)

/-- The choice of R215 (b): one more instruction before an interrupt or a soft trap is taken (R216; log 6). -/
def State.letsThrough (r : Request) (s : State) : Bool :=
  !r.isHard && decide (s.skid < s.device.skidMax) && Config.freeSkid s.tick

/-- A CPU step in Run mode (R215). The priorities noted by IPC writes hold for this arbitration only (U1). -/
def runStep (collision : Bool) (s : State) : Outcome :=
  let t := { s with stalePrio := [] }
  match s.winner with
  | none => executeInstruction collision { t with skid := 0 }
  | some r =>
    if s.letsThrough r then executeInstruction collision { t with skid := s.skid + 1 }
    else enterException collision r t

/-- `power_step()` (60_exceptions.md R241, R244). -/
def powerStep (s : State) : Outcome :=
  if s.wake then .next { s with mode := .run }
  else if allTraps.any s.trapEligible then .fault .trapWhileAsleep
  else .next s

/-- `cpu_step()` (R215). -/
def cpuStep (collision : Bool) (s : State) : Outcome :=
  match s.mode with
  | .run => runStep collision s
  | .sleep => powerStep s
  | .idle => powerStep s

/-- The slot of the environment for the next step; the environment is quiet when the schedule is empty (log 8). -/
def State.slot (s : State) : Slot := s.env.headD ⟨[], false⟩

/-- The step is counted and its slot is taken off the schedule. -/
def State.tickOver (s : State) : State := { s with env := s.env.tail, tick := s.tick + 1 }

/-- One step of the machine: the slot's events, then the CPU step. -/
def fullStep (s : State) : Outcome :=
  match applyEvents s.slot.events s.tickOver with
  | .next t => cpuStep s.slot.dmaCollision t
  | .fault f => .fault f
  | .refused r => .refused r

/-! ### Placing an instruction -/

/-- The program with a word at an even address. -/
def State.setProgWord (a : PAddr) (v : PWord) (s : State) : State := { s with prog := storeSet s.prog a.toNat v }

/-- The two words of an instruction at the pc, where the next step fetches. -/
def State.placeWords (nbits v : Nat) (s : State) : State :=
  match tableWords nbits v with
  | [w1, w2] => (s.setProgWord s.pc w1).setProgWord s.secondWordAddr w2
  | _ => s

end Sys2Proof.Machine
end

