-- ==== Sys2Proof/Machine/Step.lean ====
section
/-! DEFINITION. The step of the machine, and an instruction placed where the step fetches next. -/

namespace Sys2Proof.Machine

/-- One step: the environment's events of this slot, then one CPU step (60_exceptions.md R215). -/
def step (s : State) : Host.Outcome State Fault Refusal := fullStep s

/-- The state with an instruction's words stored at the pc, numbered as the opcode table numbers bits; nothing else
changes. It stands for the load of a program from outside the machine (log 10). -/
def State.withFetchWord (s : State) (nbits w : Nat) : State := s.placeWords nbits w

end Sys2Proof.Machine
end

