-- ==== Sys2Proof/Machine/Assignment.lean ====
section
/-! DEFINITION. The C notation of Example 6-1, `<REG>bits.<FIELD> = v` (30_encoding.md R140): an assignment to a field is
one read-modify-write of the named register, with no other agent between its read and its write (20_memory.md R114). It
is no instruction; how a compiler makes instructions of it the source does not say (log 53). -/

namespace Sys2Proof.Machine

/-- A named field: `width` bits of a register from bit `low` upwards (R140). -/
structure RegField where
  reg : Sfr
  low : Nat
  width : Nat
deriving DecidableEq, Repr

/-- `<REG>bits.<FIELD> = value` (R140). -/
structure Assignment where
  field : RegField
  value : Word
deriving DecidableEq, Repr

/-- The flag of a source, such as `IFS0bits.T1IF` (11_interrupt_registers.md R71). -/
def Irq.flagField (i : Irq) : RegField := ⟨.ifs i.reg, i.bit, 1⟩

/-- The enable of a source, such as `IEC1bits.CNIE` (R71). -/
def Irq.enableField (i : Irq) : RegField := ⟨.iec i.reg, i.bit, 1⟩

/-- The priority of a source, such as `IPC2bits.T3IP` (R71). -/
def Irq.prioField (i : Irq) : RegField := ⟨.ipc i.ipcReg, i.ipcLow, 3⟩

/-- `SRbits.IPL` (10_state.md R28). -/
def iplField : RegField := ⟨.sr, 5, 3⟩

/-- `INTCON1bits.NSTDIS` (R38). -/
def nstdisField : RegField := ⟨.intcon1, 15, 1⟩

/-- The bits of its register that a field has. -/
def RegField.mask (f : RegField) : Word := BitVec.ofNat 16 (2 ^ f.width - 1) <<< f.low

/-- A word of the register with the field replaced by a value. -/
def RegField.replace (f : RegField) (old value : Word) : Word := replaceBits old (value <<< f.low) f.mask

/-- The data address of a register: the first the device gives it; it only names the draw of bits that read as any
value. -/
def sfrAddr (d : Device) (r : Sfr) : DAddr := ((d.sfrMap.find? fun e => e.2 == r).map Prod.fst).getD 0x0000#16

/-- One assignment: one software read of the register and one software word write of it, in one action (R140). -/
def State.assign (a : Assignment) (s : State) : State :=
  s.writeSfr a.field.reg (a.field.replace (s.readSfr a.field.reg (sfrAddr s.device a.field.reg)) a.value) 0xFFFF#16

/-- An assignment in its slot of the environment: the slot's events act before it, those of the next slot after it, and
none between its read and its write (20_memory.md R114). -/
def assignStep (a : Assignment) (s : State) : Outcome :=
  match applyEvents s.slot.events s.tickOver with
  | .next t => .next (t.assign a)
  | .fault f => .fault f
  | .refused r => .refused r

end Sys2Proof.Machine
end

