-- ==== Sys2Proof/Safety.lean ====
section
/-! DEFINITION. What counts as a safe run, and when a run has ended (70_reset_and_hazards.md R352). -/

namespace Sys2Proof.Safety

open Sys2Proof.Machine

/-- The states that runs of `k` steps pass through. -/
def after : Nat → State → Option State
  | 0, s => some s
  | k + 1, s =>
    match step s with
    | .next t => after k t
    | .fault _ => none
    | .refused _ => none

/-- The first `k` steps meet no fault and no refusal: the run stays inside what the model describes (R352, D30). -/
def safeFor (k : Nat) (s : State) : Prop := (after k s).isSome

/-- A run has ended at the end label `a` (R352): the environment raises no further event, and the step that starts here
arbitrates in `s.tickOver`, finds no winner, and executes `BRA .` at `a` in Run mode. -/
def ended (a : PAddr) (s : State) : Prop :=
  s.env = [] ∧ s.tickOver.mode = .run ∧ s.tickOver.winner = none
    ∧ s.tickOver.pc = a ∧ progImplemented s.tickOver.device a = true
    ∧ decode s.tickOver.fetchWords = .ok (.bra 0xFFFF#16) [s.tickOver.progWord s.tickOver.secondWordAddr]

end Sys2Proof.Safety
end

