-- ==== Sys2Proof/Certificates/Slice0/Obligations.lean ====
section
/-! DEFINITION. The statements for the provers, with the words they are stated in: what a countdown, a store, a stack
access, a raised trap and an exception entry leave in the state, written from the rules and not through the functions
that compute them. -/

namespace Sys2Proof.Claims

open Sys2Proof Sys2Proof.Machine

/-! ### Words of the statements -/

/-- The instruction answers a next state of which `P` holds. -/
def Runs (i : Instr) (s : State) (P : State → Prop) : Prop := ∃ t, exec i s = .next t ∧ P t

/-- A number as a value of the program counter: modulo 2^PCW, PCW at most the 23 bits of a program address
(00_scope.md R7, 41_referenced_instructions.md R187). -/
def pcValue (s : State) (n : Int) : PAddr := BitVec.ofInt 23 (n % 2 ^ s.device.pcw)

/-- The pc after an instruction of one word, and the address of the second word of one with two. -/
def nextPc (s : State) : PAddr := pcValue s (s.pc.toNat + 2)

/-- A cycle count of a kind of step (70_reset_and_hazards.md R348): a member of its set, taken as at least 1. -/
def CycleCount (d : Device) (k : StepKind) (c : Nat) : Prop :=
  (cycleSet d k = [] ∧ c = 1) ∨ ∃ n ∈ cycleSet d k, c = max 1 n

/-- The state after a countdown of `c` cycles (40_interrupt_instructions.md R152). -/
def countedBy (c : Nat) (s : State) : State :=
  { s with
    disicnt := BitVec.ofNat 14 (s.disicnt.toNat - c)
    intcon2 := if s.disicnt ≠ 0#14 ∧ s.disicnt.toNat ≤ c then setBit s.intcon2 14 false else s.intcon2 }

/-- `t` is `u` after the countdown of a step of kind `k`. -/
def CountedDown (k : StepKind) (u t : State) : Prop := ∃ c, CycleCount u.device k c ∧ t = countedBy c u

/-- Every byte of memory reads as before. -/
def MemoryKept (s t : State) : Prop := ∀ a : DAddr, t.ramByte a = s.ramByte a

/-- A word is stored at `a`, little-endian, and every byte outside it reads as before. -/
def Stored (s t : State) (a : DAddr) (v : Word) : Prop :=
  t.ramByte a = v.extractLsb' 0 8 ∧ t.ramByte (a + 1) = v.extractLsb' 8 8
    ∧ ∀ b : DAddr, b ≠ a → b ≠ a + 1 → t.ramByte b = s.ramByte b

/-- A byte is stored at `a`, and every other byte reads as before. -/
def StoredByte (s t : State) (a : DAddr) (v : Byte) : Prop :=
  t.ramByte a = v ∧ ∀ b : DAddr, b ≠ a → t.ramByte b = s.ramByte b

/-- The word that a read of an even implemented address gives: the register there, or two bytes of memory, the low byte
first (20_memory.md R102, R109). -/
def wordAt (s : State) (a : DAddr) : Word :=
  match sfrAt s.device a with
  | some r => s.readSfr r a
  | none => s.ramByte (a + 1) ++ s.ramByte a

/-- A word access at `a` raises no address error: the address is even and implemented. -/
def WordOk (s : State) (a : DAddr) : Prop := a.getLsbD 0 = false ∧ dataImplemented s.device a = true

/-- `q` is `s` after a word write at `a`: to the register there, filtered by its access codes, or to memory, and then
nothing else changes. -/
def Wrote (s : State) (a : DAddr) (v : Word) (q : State) : Prop :=
  match sfrAt s.device a with
  | some r => q = s.writeSfr r v 0xFFFF#16 ∧ MemoryKept s q
  | none => Stored s q a v ∧ q = { s with mem := q.mem }

/-- `q` is `s` after a byte write at `a`: to one half of the register there, or to memory. -/
def WroteByte (s : State) (a : DAddr) (v : Byte) (q : State) : Prop :=
  match sfrAt s.device (a &&& 0xFFFE#16) with
  | some r => q = s.writeSfr r (v ++ v) (if a.getLsbD 0 then 0xFF00#16 else 0x00FF#16) ∧ MemoryKept s q
  | none => StoredByte s q a v ∧ q = { s with mem := q.mem }

/-- The countdown after an instruction that wrote at `a`: none if it wrote DISICNT (R152, R153). -/
def CountedAfterWrite (k : StepKind) (s : State) (a : DAddr) (u t : State) : Prop :=
  if sfrAt s.device (a &&& 0xFFFE#16) = some .disicnt then t = u else CountedDown k u t

/-- An effective address formed from W15 that raises the stack error trap (61_traps.md R281, R282). -/
def badStack (s : State) (ea : DAddr) : Bool :=
  decide (ea.toNat < 0x0800) || (s.splimWritten && decide (s.splim.toNat < ea.toNat))

/-- `s` with STKERR set if `c` holds. -/
def stackErrorIf (c : Bool) (s : State) : State :=
  { s with intcon1 := if c then setBit s.intcon1 2 true else s.intcon1 }

/-- The end of a push that began in `s` and whose write left `q`: W15 moves up by 2, and STKERR is set by a bad address
or a wrap past 0xFFFF (R281 to R283). -/
def pushed (s q : State) : State :=
  { stackErrorIf (badStack s s.sp || decide (0xFFFE ≤ q.sp.toNat)) q with w := q.w.set 15 (q.sp + 2#16) }

/-- The word that a pop reads: W15 has moved down by 2 when it is read. -/
def topWord (s : State) : Word := wordAt { s with w := s.w.set 15 (s.sp - 2#16) } (s.sp - 2#16)

/-- The state after a pop: W15 moves down by 2, and STKERR is set by a bad address or a wrap below 0. -/
def popped (s : State) : State :=
  { stackErrorIf (badStack s (s.sp - 2#16) || decide (s.sp.toNat < 2)) s with w := s.w.set 15 (s.sp - 2#16) }

/-- The pc that RETURN and RETFIE take from the two words on top of the stack (40_interrupt_instructions.md R154). -/
def framePc (s : State) : PAddr :=
  pcValue s ((topWord s).extractLsb' 0 7 ++ (topWord (popped s)).extractLsb' 1 15 ++ 0#1 : BitVec 23).toNat

/-- `q` is `s` after register `d` was loaded with `v`; a load of W15 with a value below 0x0800 may set STKERR (R281). -/
def Loaded (s : State) (d : WReg) (v : Word) (q : State) : Prop :=
  let regs := s.w.set d.toNat (if d = 15#4 then v &&& 0xFFFE#16 else v) d.isLt
  q = { s with w := regs }
    ∨ (d = 15#4 ∧ (v &&& 0xFFFE#16).toNat < 0x0800 ∧ q = { s with w := regs, intcon1 := setBit s.intcon1 2 true })

/-- Raising the hard trap `h` is a conflict (61_traps.md R312). -/
def Conflict (h : Trap) (s : State) : Prop :=
  (∃ u : Trap, h.level.toNat < u.level.toNat ∧ s.tflag u = true) ∨ h.level.toNat < s.cpuIpl.toNat

/-- What raising a hard trap in `s` answers (R272): a device Reset in a conflict, the fault at the trap's own level (R313),
and otherwise a next state of which `P` holds. -/
def RaisesHard (h : Trap) (s : State) (o : Outcome) (P : State → Prop) : Prop :=
  (Conflict h s → o = .next (deviceReset .trapConflict s))
    ∧ (¬ Conflict h s → s.cpuIpl = h.level → o = .fault .sameLevelHardTrap)
    ∧ (¬ Conflict h s → s.cpuIpl ≠ h.level → ∃ t, o = .next t ∧ P t)

/-- The step has applied the events of its slot, is in Run mode, and is about to arbitrate in `u`. -/
def Arbitrates (s u : State) : Prop := applyEvents s.slot.events s.tickOver = .next u ∧ u.mode = .run

/-- How a bit answers a software write (00_scope.md R9): `rw` takes it, `rc` can only be cleared, `ro` ignores it. -/
inductive Access where
  | rw | rc | ro
deriving DecidableEq, Repr

/-- The bit after a write of `new`. -/
def Access.apply : Access → Bool → Bool → Bool
  | .rw, _, new => new
  | .rc, old, new => old && new
  | .ro, old, _ => old

/-- Every bit of a register after a write of `v` to the bits that `be` selects. -/
def WrittenBy (access : Nat → Access) (old v be new : Word) : Prop :=
  ∀ i, i < 16 → new.getLsbD i =
    if be.getLsbD i then (access i).apply (old.getLsbD i) (v.getLsbD i) else old.getLsbD i

/-- The access codes of SR (10_state.md R28, R30). -/
def srAccess (nstdis : Bool) (i : Nat) : Access :=
  if i ≤ 3 then .rw
  else if 5 ≤ i ∧ i ≤ 7 then (if nstdis then .ro else .rw)
  else if i = 10 ∨ i = 12 ∨ i = 13 then .rc
  else .ro

/-- The access codes of CORCON (R32, R34). -/
def corconAccess (i : Nat) : Access :=
  if i = 3 then .rc else if i ≤ 7 ∨ i = 11 ∨ i = 12 then .rw else .ro

/-- The access codes of INTCON2 (R42, R43). -/
def intcon2Access (i : Nat) : Access := if i ≤ 4 ∨ i = 15 then .rw else .ro

/-- A bit of an IFS or IEC register is R/W exactly where the device has the source (11_interrupt_registers.md R74). -/
def sourceAccess (d : Device) (k : Fin 5) (i : Nat) : Access := if (sourceMask d k).getLsbD i then .rw else .ro

/-- A bit of an IPC register is R/W exactly in the fields the device has (R87, R89). -/
def ipcAccess (d : Device) (j : Fin 18) (i : Nat) : Access := if (ipcMask d j).getLsbD i then .rw else .ro

/-- The rows of the opcode map: match and mask (30_encoding.md R135). -/
def opcodeRows : List (PWord × PWord) :=
  [(0x000000#24, 0xFF0000#24), (0x040000#24, 0xFF0001#24), (0x060000#24, 0xFFFFFF#24), (0x064000#24, 0xFFFFFF#24),
   (0x200000#24, 0xF00000#24), (0x370000#24, 0xFF0000#24), (0x800000#24, 0xF80000#24), (0x880000#24, 0xF80000#24),
   (0xEF0000#24, 0xFF8000#24), (0xF80000#24, 0xFF0001#24), (0xF90000#24, 0xFF0001#24), (0xFC0000#24, 0xFFC000#24),
   (0xFE0000#24, 0xFFFFFF#24), (0xFE4000#24, 0xFFFFFE#24)]

/-- A word matches a row. -/
def matchesRow (w : PWord) (row : PWord × PWord) : Bool := w &&& row.2 == row.1

/-- The new IPL<2:0> of an entry (60_exceptions.md R223). -/
def newIpl (s : State) : Request → BitVec 3
  | .irq _ p => if s.nstdis then 7#3 else p
  | .trap t => BitVec.ofNat 3 (t.level.toNat - 8)

/-- The new IPL3 of an entry (R223). -/
def newIpl3 (s : State) : Request → Bool
  | .irq _ _ => s.ipl3
  | .trap _ => true

/-- The pc that an entry loads: bits 22:1 of the request's vector in the table that ALTIVT selects (20_memory.md R106,
R107; R225). -/
def vectorPc (r : Request) (s : State) : PAddr :=
  pcValue s ((s.progWord ((if s.intcon2.getLsbD 15 then 0x000104#23 else 0x000004#23)
    + BitVec.ofNat 23 (2 * r.vec))).extractLsb' 1 22 ++ 0#1 : BitVec 23).toNat

/-- The first word of the frame: PC<15:0> (R222). -/
def frameWord1 (s : State) : Word := s.pc.extractLsb' 0 16

/-- The second word of the frame: SRL, IPL3, PC<22:16> (R222). -/
def frameWord2 (s : State) : Word :=
  s.sr.extractLsb' 0 8 ++ BitVec.ofBool (s.corcon.getLsbD 3) ++ s.pc.extractLsb' 16 7

/-- Where the second word of the frame goes: 2 above the first, or, where the first is written into W15 itself, 2 above
what that write leaves there (log 36). -/
def frameSecond (s : State) : DAddr :=
  if sfrAt s.device s.sp = some .w15 then (frameWord1 s &&& 0xFFFE#16) + 2#16 else s.sp + 2#16

/-- PC and SRL in the temporary buffer (10_state.md R49). -/
def latched (s : State) : State := { s with tempPc := s.pc, tempSrl := s.sr.extractLsb' 0 8 }

/-- The two words of the frame stand at `a` and `a + 2`, and every other byte reads as before (R222). -/
def FrameAt (s t : State) (a : DAddr) : Prop :=
  t.ramWord a = frameWord1 s ∧ t.ramWord (a + 2) = frameWord2 s
    ∧ ∀ b : DAddr, b ≠ a → b ≠ a + 1 → b ≠ a + 2 → b ≠ a + 3 → t.ramByte b = s.ramByte b

/-- The words at `a` and `a + 2` are memory: even, implemented, and no registers. -/
def RamFrame (s : State) (a : DAddr) : Prop :=
  WordOk s a ∧ WordOk s (a + 2) ∧ sfrAt s.device a = none ∧ sfrAt s.device (a + 2) = none

/-- The state after the two pushes of an entry where they write no register: W15 is 4 higher, its bit 0 dropped, and
STKERR is set by a bad address or a wrap of either (R222, 61_traps.md R281 to R283). -/
def framePushed (mem : Memory) (s : State) : State :=
  { stackErrorIf (badStack s s.sp || badStack s ((s.sp + 2#16) &&& 0xFFFE#16) || decide (0xFFFC ≤ s.sp.toNat)) (latched s)
    with mem := mem, w := s.w.set 15 ((s.sp + 4#16) &&& 0xFFFE#16) }

/-- The state at the end of an entry, before its countdown, from the state `p` after its two pushes (R223 to R227). -/
def entered (r : Request) (vecnum : BitVec 7) (p : State) : State :=
  { p with
    sr := p.sr.extractLsb' 8 8 ++ newIpl p r ++ p.sr.extractLsb' 0 5
    corcon := setBit p.corcon 3 (newIpl3 p r)
    inttreg := 0#4 ++ r.level ++ 0#1 ++ vecnum
    pc := vectorPc r p
    mode := .run
    skid := 0 }

/-- `t` is `p` after the end of an entry and its countdown; VECNUM is the irq number of an interrupt, and any value after
a trap (R226, log 25). -/
def EntryEnds (r : Request) (p t : State) : Prop :=
  ∃ vecnum c, CycleCount p.device .entry c ∧ t = countedBy c (entered r vecnum p)
    ∧ ∀ i prio, r = .irq i prio → vecnum = BitVec.ofNat 7 i.val

/-! ### Address errors -/

/-- The kind of step that an instruction is (70_reset_and_hazards.md R348); RESET has none. -/
def kindOf : Instr → StepKind
  | .nop _ => .nop
  | .goto _ => .goto
  | .ret => .ret
  | .retfie => .retfie
  | .movLit _ _ => .movLit
  | .bra _ => .bra
  | .movToReg _ _ => .movToReg
  | .movToFile _ _ => .movToFile
  | .clr _ _ _ => .clr
  | .push _ => .push
  | .pop _ => .pop
  | .disi _ => .disi
  | .reset => .nop
  | .pwrsav _ => .pwrsav

/-- W15 after an instruction with an address error: as its pushes and pops move it, bit 0 dropped (61_traps.md R303). -/
def movedSp (i : Instr) (s : State) : Word :=
  match i with
  | .push _ => (s.sp + 2#16) &&& 0xFFFE#16
  | .pop _ => (s.sp - 2#16) &&& 0xFFFE#16
  | .ret | .retfie => (s.sp - 4#16) &&& 0xFFFE#16
  | .nop _ | .goto _ | .movLit _ _ | .bra _ | .movToReg _ _ | .movToFile _ _ | .clr _ _ _ | .disi _ | .reset
  | .pwrsav _ => s.sp

/-- A stack check that a pop makes with W15 at `sp` fails (R281 to R283). -/
def popFails (s : State) (sp : Word) : Bool := badStack s (sp - 2#16) || decide (sp.toNat < 2)

/-- A stack check of an instruction whose write is inhibited fails (R281 to R283). -/
def stackFails (i : Instr) (s : State) : Bool :=
  match i with
  | .push _ => badStack s s.sp || decide (0xFFFE ≤ s.sp.toNat)
  | .pop _ => popFails s s.sp
  | .ret | .retfie => popFails s s.sp || popFails s ((s.sp - 2#16) &&& 0xFFFE#16)
  | .nop _ | .goto _ | .movLit _ _ | .bra _ | .movToReg _ _ | .movToFile _ _ | .clr _ _ _ | .disi _ | .reset
  | .pwrsav _ => false

/-! ### Invariants -/

/-- PC<0> and W15<0> are 0, and the pc fits its width PCW (10_state.md R20, R24; 00_scope.md R7). -/
def EvenPointers (s : State) : Prop :=
  s.pc.getLsbD 0 = false ∧ s.sp.getLsbD 0 = false ∧ s.pc.toNat < 2 ^ s.device.pcw

/-- Data memory and program memory are in canonical form. -/
def Canonical (s : State) : Prop := s.mem.wf = true ∧ s.prog.wf = true

/-- INTCON2.DISI is 1 exactly while DISICNT is not 0 (R43), DISICNT is in its unspecified condition only outside a DISI
period (40_interrupt_instructions.md R153), and there is no DISI period in Sleep or Idle (R152). -/
def DisiConsistent (s : State) : Prop :=
  (s.disiActive = true ↔ s.disicnt ≠ 0#14) ∧ (s.disicntUnspecified = true → s.disiActive = false)
    ∧ (s.mode ≠ .run → s.disiActive = false)

/-- Every unimplemented bit is 0 (00_scope.md R9; 10_state.md R32, R38, R42, R45; 11_interrupt_registers.md R74, R81, R87). -/
def ReservedZero (s : State) : Prop :=
  s.corcon &&& 0xE000#16 = 0#16 ∧ s.intcon1 &&& 0x0001#16 = 0#16 ∧ s.intcon2 &&& 0x3FE0#16 = 0#16
    ∧ s.inttreg &&& 0xF080#16 = 0#16
    ∧ (∀ k : Fin 5, s.ifs.get k &&& ~~~ sourceMask s.device k = 0#16)
    ∧ (∀ k : Fin 5, s.iec.get k &&& ~~~ sourceMask s.device k = 0#16)
    ∧ (∀ j : Fin 18, s.ipc.get j &&& ~~~ ipcMask s.device j = 0#16)

end Sys2Proof.Claims

open Sys2Proof Sys2Proof.Machine Sys2Proof.Claims


/-! ### Encoding -/

/-- Decoding an encoded well-formed instruction gives it back, with the words after it (30_encoding.md R133 to R135). -/
def Obligations.DecodeEncodeRoundTrip : Prop :=
  ∀ (i : Instr) (rest : List PWord), i.wf = true → decode (encode i ++ rest) = .ok i rest

/-- Whatever decodes is well-formed and is encoded by the words it was decoded from (30_encoding.md R133 to R135). -/
def Obligations.EncodeDecodeRoundTrip : Prop :=
  ∀ (ws : List PWord) (i : Instr) (rest : List PWord),
    decode ws = .ok i rest → i.wf = true ∧ encode i ++ rest = ws

/-- No word matches two rows of the opcode map; a first word is rejected as unlisted exactly when it matches none; a word
that matches the GOTO row is rejected when its second word is missing or has a bit of 23:7 set (30_encoding.md R135, R136). -/
def Obligations.DecodeRejectsExactlyUnlisted : Prop :=
  ∀ (w : PWord) (rest : List PWord),
    opcodeRows.countP (matchesRow w) ≤ 1
      ∧ (decode (w :: rest) = .reject (.unlisted w) ↔ opcodeRows.all (fun row => !matchesRow w row) = true)
      ∧ (matchesRow w (0x040000#24, 0xFF0001#24) = true → decode [w] = .reject .missingGotoWord
          ∧ ∀ w2 : PWord, w2 &&& 0xFFFF80#24 ≠ 0#24 → decode (w :: w2 :: rest) = .reject (.badGotoWord w2))

/-- Words of 30_encoding.md R141 decode to the instructions written beside them. -/
def Obligations.WorkedEncodingsDecode : Prop :=
  decode [0xFC0005#24] = .ok (.disi 5#14) [] ∧ decode [0x064000#24] = .ok .retfie []
    ∧ decode [0xFE4001#24] = .ok (.pwrsav 1#1) [] ∧ decode [0x042344#24, 0x000001#24] = .ok (.goto 0x012344#23) []
    ∧ decode [0x37FFFF#24] = .ok (.bra 0xFFFF#16) [] ∧ decode [0xF80042#24] = .ok (.push 0x0042#16) []
    ∧ decode [0xEF2084#24] = .ok (.clr false true 0x0084#13) [] ∧ decode [0x200E01#24] = .ok (.movLit 0x00E0#16 1#4) []
    ∧ decode [0x8804A0#24] = .ok (.movToFile 0#4 0x0094#16) []
    ∧ decode [0x800421#24] = .ok (.movToReg 0x0084#16 1#4) []

/-! ### The step -/

/-- When no request has won and the words at the pc decode, the step is `exec` of that instruction, in the state with the
noted priorities and the delay count cleared; the DMAC error trap is added if a collision accompanies it and it writes
memory (60_exceptions.md R215, 61_traps.md R294). In a run that has ended that instruction is `BRA .`
(70_reset_and_hazards.md R352). -/
def Obligations.StepRunsDecodedInstruction : Prop :=
  (∀ (s u : State) (i : Instr) (rest : List PWord),
    Arbitrates s u → u.winner = none → progImplemented u.device u.pc = true →
    decode [u.progWord u.pc, u.progWord (nextPc u)] = .ok i rest →
    step s = withCollision (s.slot.dmaCollision && writesRam i { u with stalePrio := [], skid := 0 })
      (exec i { u with stalePrio := [], skid := 0 }))
  ∧ ∀ (s : State) (a : PAddr), Safety.ended a s →
      s.pc = a ∧ step s = exec (.bra 0xFFFF#16) { s.tickOver with stalePrio := [], skid := 0 }

/-- When no request has won and the word at the pc matches no row, the step refuses it by name (30_encoding.md R136). -/
def Obligations.StepRefusesUnlistedWord : Prop :=
  ∀ s u : State,
    Arbitrates s u → u.winner = none → progImplemented u.device u.pc = true →
    opcodeRows.all (fun row => !matchesRow (u.progWord u.pc) row) = true →
    step s = .refused (.unlistedOpcode (u.progWord u.pc))

/-! ### The instructions -/

/-- NOP advances the pc by 2 and nothing else but the countdown happens (41_referenced_instructions.md R175). -/
def Obligations.NopResult : Prop :=
  ∀ (x : BitVec 16) (s : State),
    Runs (.nop x) s fun t => CountedDown .nop { s with pc := nextPc s } t ∧ MemoryKept s t

/-- GOTO to an even address, and BRA to pc + 2 plus twice its signed offset, each modulo 2^PCW and implemented
(41_referenced_instructions.md R172, R173, R187; 30_encoding.md R134). -/
def Obligations.JumpResult : Prop :=
  ∀ (offset : BitVec 16) (target : PAddr) (s : State),
    (target.getLsbD 0 = false → progImplemented s.device (pcValue s target.toNat) = true →
      Runs (.goto target) s fun t => CountedDown .goto { s with pc := pcValue s target.toNat } t ∧ MemoryKept s t)
    ∧ (progImplemented s.device (pcValue s (s.pc.toNat + 2 + 2 * offset.toInt)) = true →
      Runs (.bra offset) s fun t =>
        CountedDown .bra { s with pc := pcValue s (s.pc.toNat + 2 + 2 * offset.toInt) } t ∧ MemoryKept s t)

/-- GOTO and BRA to an unimplemented address raise the address error trap; the pc is then some even address
(61_traps.md R298; that it is even and chosen here is log 37). -/
def Obligations.JumpToUnimplementedTraps : Prop :=
  ∀ (i : Instr) (target : PAddr) (s : State),
    ((∃ operand : PAddr, i = .goto operand ∧ operand.getLsbD 0 = false ∧ target = pcValue s operand.toNat)
      ∨ ∃ offset : BitVec 16, i = .bra offset ∧ target = pcValue s (s.pc.toNat + 2 + 2 * offset.toInt)) →
    progImplemented s.device target = false →
    RaisesHard .addressError s (exec i s) fun t =>
      MemoryKept s t ∧ ∃ p : PAddr, p.getLsbD 0 = false ∧ p.toNat < 2 ^ s.device.pcw
        ∧ CountedDown (kindOf i) { s with pc := p, intcon1 := setBit s.intcon1 3 true } t

/-- RETURN pops two words and takes the pc from them; SRL and IPL3 stay (R174). -/
def Obligations.ReturnResult : Prop :=
  ∀ s : State, WordOk s (s.sp - 2#16) → WordOk s (s.sp - 4#16) →
    Runs .ret s fun t => MemoryKept s t ∧
      CountedDown .ret { popped (popped s) with pc := framePc s } t

/-- RETFIE pops two words and takes SRL, IPL3 and the pc from them, whatever NSTDIS is (40_interrupt_instructions.md
R154, 60_exceptions.md R230). -/
def Obligations.RetfieResult : Prop :=
  ∀ s : State, WordOk s (s.sp - 2#16) → WordOk s (s.sp - 4#16) →
    Runs .retfie s fun t => MemoryKept s t ∧
      CountedDown .retfie { popped (popped s) with
        sr := s.sr.extractLsb' 8 8 ++ (topWord s).extractLsb' 8 8
        corcon := setBit s.corcon 3 ((topWord s).getLsbD 7)
        pc := framePc s } t

/-- MOV #lit16,Wnd loads the literal; W15<0> stays 0 (R179, 10_state.md R24). -/
def Obligations.MovLiteralResult : Prop :=
  ∀ (lit : Word) (d : WReg) (s : State),
    Runs (.movLit lit d) s fun t => MemoryKept s t ∧
      ∃ q, Loaded s d lit q ∧ CountedDown .movLit { q with pc := nextPc s } t

/-- MOV f,Wnd loads the word at an even implemented address: two bytes of memory, the low byte first, or what a read of
the register there gives (R181, 20_memory.md R109). -/
def Obligations.MovFileToRegisterResult : Prop :=
  ∀ (f : DAddr) (d : WReg) (s : State), WordOk s f →
    Runs (.movToReg f d) s fun t => MemoryKept s t ∧
      ∃ q, Loaded s d (wordAt s f) q ∧ CountedDown .movToReg { q with pc := nextPc s } t

/-- MOV Wns,f stores the register at an even implemented address, memory or register (R180). -/
def Obligations.MovRegisterToFileResult : Prop :=
  ∀ (ws : WReg) (f : DAddr) (s : State), WordOk s f →
    Runs (.movToFile ws f) s fun t =>
      ∃ q, Wrote s f (s.w.get ws.toFin) q ∧ CountedAfterWrite .movToFile s f { q with pc := nextPc s } t

/-- CLR f stores a word of zeros at an even implemented address, and CLR.B f a byte of zeros at any implemented address,
memory or register (R178). -/
def Obligations.ClearFileResult : Prop :=
  ∀ (f : BitVec 13) (s : State),
    (WordOk s (f.zeroExtend 16) → Runs (.clr false true f) s fun t =>
      ∃ q, Wrote s (f.zeroExtend 16) 0#16 q
        ∧ CountedAfterWrite .clr s (f.zeroExtend 16) { q with pc := nextPc s } t)
    ∧ (dataImplemented s.device (f.zeroExtend 16) = true → Runs (.clr true true f) s fun t =>
      ∃ q, WroteByte s (f.zeroExtend 16) 0#8 q
        ∧ CountedAfterWrite .clr s (f.zeroExtend 16) { q with pc := nextPc s } t)

/-- CLR WREG clears W0 or its low byte (R178). -/
def Obligations.ClearWregResult : Prop :=
  ∀ (byteOp : Bool) (f : BitVec 13) (s : State),
    Runs (.clr byteOp false f) s fun t => MemoryKept s t ∧
      CountedDown .clr { s with
        pc := nextPc s
        w := s.w.set 0 (if byteOp then (s.w.get 0).extractLsb' 8 8 ++ 0#8 else 0#16) } t

/-- PUSH f stores the word at f on the stack and moves W15 up by 2; a bad stack address or a wrap sets STKERR and
suppresses nothing (R176; 61_traps.md R280 to R284). -/
def Obligations.PushResult : Prop :=
  ∀ (f : DAddr) (s : State), WordOk s f → WordOk s s.sp →
    Runs (.push f) s fun t =>
      ∃ q, Wrote s s.sp (wordAt s f) q
        ∧ CountedAfterWrite .push s s.sp { pushed s q with pc := nextPc s } t

/-- POP f moves W15 down by 2 and writes the word there at f, a software write where f is a register (R177). -/
def Obligations.PopResult : Prop :=
  ∀ (f : DAddr) (s : State), WordOk s (s.sp - 2#16) → WordOk s f →
    Runs (.pop f) s fun t =>
      ∃ q, Wrote (popped s) f (topWord s) q ∧ CountedAfterWrite .pop s f { q with pc := nextPc s } t

/-- DISI loads DISICNT, sets or clears INTCON2.DISI, ends the unspecified condition and does not count down
(40_interrupt_instructions.md R151; that DISI loads the literal is the spec's decision D9, log 23). -/
def Obligations.DisiResult : Prop :=
  ∀ (lit : BitVec 14) (s : State),
    Runs (.disi lit) s fun t => MemoryKept s t ∧
      t = { s with
        pc := nextPc s
        disicnt := lit
        disicntUnspecified := false
        intcon2 := setBit s.intcon2 14 (lit != 0#14) }

/-- RESET is a device Reset (41_referenced_instructions.md R170, 70_reset_and_hazards.md R325). -/
def Obligations.ResetResult : Prop :=
  ∀ s : State, Runs .reset s fun t => t = deviceReset .software s

/-- PWRSAV outside a DISI period advances the pc and enters Sleep or Idle; inside one it is refused by name (R171; the
refusal is the spec's decision D19, log 27). -/
def Obligations.PowerSaveResult : Prop :=
  ∀ (lit : BitVec 1) (s : State),
    (s.disiActive = false →
      Runs (.pwrsav lit) s fun t => MemoryKept s t ∧
        CountedDown .pwrsav { s with pc := nextPc s, mode := if lit = 0#1 then .sleep else .idle } t)
      ∧ (s.disiActive = true → exec (.pwrsav lit) s = .refused .pwrsavDuringDisi)

/-! ### Stack checks -/

/-- The overflow check against SPLIM, on every push and pop through W15: not before a word was written to SPLIM, and then
for an effective address greater than SPLIM, not for one equal to it; a Reset disarms the check (61_traps.md R282). -/
def Obligations.StackOverflowCheck : Prop :=
  ∀ (s : State) (inhibit : Bool) (v : Word) (k : ResetKind),
    (deviceReset k s).splimWritten = false ∧ State.reset.splimWritten = false
      ∧ (s.writeSfr .splim v 0xFFFF#16).splimWritten = true
      ∧ (s.splimWritten = true → s.splim.toNat < s.sp.toNat → (s.pushWord inhibit v).tflag .stackError = true)
      ∧ (s.splimWritten = true → s.splim.toNat < (s.sp - 2#16).toNat → s.popWord.2.tflag .stackError = true)
      ∧ ((s.splimWritten = false ∨ s.sp.toNat ≤ s.splim.toNat) → 0x0800 ≤ s.sp.toNat → s.sp.toNat < 0xFFFE →
          WordOk s s.sp → sfrAt s.device s.sp = none → (s.pushWord inhibit v).intcon1 = s.intcon1)
      ∧ ((s.splimWritten = false ∨ (s.sp - 2#16).toNat ≤ s.splim.toNat) → 0x0802 ≤ s.sp.toNat →
          WordOk s (s.sp - 2#16) → s.popWord.2.intcon1 = s.intcon1)

/-- An access through W15 below 0x0800, and a calculation that wraps over the end of data space, raise the stack error
trap whatever SPLIM is (61_traps.md R281, R283). A device that maps W15 itself at 0xFFFE is left out: there the push
writes W15 before it moves (log 36). -/
def Obligations.StackUnderflowAndWrap : Prop :=
  ∀ (s : State) (inhibit : Bool) (v : Word),
    (s.sp.toNat < 0x0800 → (s.pushWord inhibit v).tflag .stackError = true)
      ∧ (s.sp = 0xFFFE#16 → sfrAt s.device s.sp ≠ some .w15 →
          (s.pushWord inhibit v).tflag .stackError = true ∧ (s.pushWord inhibit v).sp = 0x0000#16)
      ∧ ((s.sp - 2#16).toNat < 0x0800 → s.popWord.2.tflag .stackError = true)
      ∧ (s.sp = 0x0000#16 → s.popWord.2.tflag .stackError = true ∧ s.popWord.2.sp = 0xFFFE#16)

/-! ### Traps -/

/-- An instruction with a data access at a misaligned or unimplemented address raises the address error trap. Where the
trap is raised without conflict the instruction completes and ADDRERR is set; W15 moves as its pushes and pops move it,
their checks set STKERR, the pc advances, MOV f,Wnd loads its register, RETFIE may change SRL and IPL3, the countdown
runs; every other bit of every register and every byte of memory stays (61_traps.md R296, R300, R303; log 32). -/
def Obligations.DataAddressErrorTraps : Prop :=
  ∀ (i : Instr) (s : State), accessBad i s = true →
    RaisesHard .addressError s (exec i s) fun t =>
      MemoryKept s t ∧ ∃ (u : State) (c : Nat), CycleCount s.device (kindOf i) c
        ∧ t = countedBy c { s with pc := u.pc, w := u.w, sr := u.sr, corcon := u.corcon, intcon1 := u.intcon1 }
        ∧ (∀ n, n ≠ 2 → u.intcon1.getLsbD n = (s.intcon1.getLsbD n || decide (n = 3)))
        ∧ ((∀ f, i ≠ .movToReg f 15#4) →
            u.sp = movedSp i s ∧ u.intcon1.getLsbD 2 = (s.intcon1.getLsbD 2 || stackFails i s))
        ∧ (∀ f, i = .movToReg f 15#4 → u.sp.getLsbD 0 = false
            ∧ (u.intcon1.getLsbD 2 = s.intcon1.getLsbD 2 ∨ u.sp.toNat < 0x0800 ∧ u.intcon1.getLsbD 2 = true))
        ∧ (∀ r : Fin 16, r ≠ 15 → (∀ f d, i = .movToReg f d → d.toFin ≠ r) → u.w.get r = s.w.get r)
        ∧ (i ≠ .retfie → u.sr = s.sr ∧ u.corcon = s.corcon)
        ∧ (∀ n, 8 ≤ n → u.sr.getLsbD n = s.sr.getLsbD n) ∧ (∀ n, n ≠ 3 → u.corcon.getLsbD n = s.corcon.getLsbD n)
        ∧ (i ≠ .retfie → i ≠ .ret → u.pc = nextPc s)
        ∧ (i = .retfie ∨ i = .ret → u.pc.getLsbD 0 = false ∧ u.pc.toNat < 2 ^ s.device.pcw)

/-- Which accesses raise the address error trap: a word access at an odd or unimplemented address, a byte access at an
unimplemented one; nothing else (61_traps.md R296, R300). -/
def Obligations.WhichAccessesAreBad : Prop :=
  ∀ (s : State) (f : DAddr) (g : BitVec 13) (d : WReg) (lit : Word),
    (accessBad (.movToReg f d) s = false ↔ WordOk s f)
      ∧ (accessBad (.movToFile d f) s = false ↔ WordOk s f)
      ∧ (accessBad (.clr false true g) s = false ↔ WordOk s (g.zeroExtend 16))
      ∧ (accessBad (.clr true true g) s = false ↔ dataImplemented s.device (g.zeroExtend 16) = true)
      ∧ (accessBad (.push f) s = false ↔ WordOk s f ∧ WordOk s s.sp)
      ∧ (accessBad (.pop f) s = false ↔ WordOk s (s.sp - 2#16) ∧ WordOk s f)
      ∧ (accessBad .ret s = false ↔ WordOk s (s.sp - 2#16) ∧ WordOk s (s.sp - 4#16))
      ∧ (accessBad .retfie s = false ↔ WordOk s (s.sp - 2#16) ∧ WordOk s (s.sp - 4#16))
      ∧ accessBad (.movLit lit d) s = false

/-- A step that finds program memory unimplemented at the pc executes no instruction and raises the address error trap; the
pc is then some even address (61_traps.md R299; the countdown of this step is log 43). -/
def Obligations.FetchFromUnimplementedTraps : Prop :=
  ∀ s u : State,
    Arbitrates s u → u.winner = none → progImplemented u.device u.pc = false →
    RaisesHard .addressError u (step s) fun t =>
      MemoryKept u t ∧ ∃ p : PAddr, p.getLsbD 0 = false ∧ p.toNat < 2 ^ u.device.pcw ∧
        CountedDown .fetchError
          { u with pc := p, intcon1 := setBit u.intcon1 3 true, stalePrio := [], skid := 0 } t

/-- The two hard traps: an oscillator failure sets OSCFAIL and CF and is a conflict only at level 15; an address error is a
conflict exactly while OSCFAIL = 1 or above level 13, and the conflict resets the device and sets TRAPR (61_traps.md R306,
R312, R313; 70_reset_and_hazards.md R324). -/
def Obligations.HardTraps : Prop :=
  ∀ s after : State,
    RaisesHard .oscFail s (applyEvent .oscFail s) (fun t => t = { s with cf := true, intcon1 := setBit s.intcon1 1 true })
      ∧ (Conflict .oscFail s ↔ s.cpuIpl = 15#4)
      ∧ RaisesHard .addressError s (applyEvent .dataAddressError s)
          (fun t => t = { s with intcon1 := setBit s.intcon1 3 true })
      ∧ ((s.tflag .oscFail = true ∨ s.cpuIpl = 14#4 ∨ s.cpuIpl = 15#4) ↔ Conflict .addressError s)
      ∧ (Conflict .addressError s →
          ∃ t, raiseHard .addressError s after = .next t ∧ t.trapr = true ∧ t.intcon1 = 0x0000#16 ∧ t.pc = 0x000000#23)

/-- Math errors: a carry out of bit 39 of an accumulator traps exactly if COVTE is set; a divide by zero sets DIV0ERR, a
shift error sets SFTACERR and leaves the accumulators, and neither can be disabled; each sets MATHERR (61_traps.md R288
to R291). -/
def Obligations.MathErrorEvents : Prop :=
  ∀ (s : State) (v : AccVal),
    (s.intcon1.getLsbD 8 = true →
      applyEvent (.accCatastrophic .a v) s
          = .next { s with accA := v, intcon1 := setBit (setBit s.intcon1 12 true) 4 true }
        ∧ applyEvent (.accCatastrophic .b v) s
          = .next { s with accB := v, intcon1 := setBit (setBit s.intcon1 11 true) 4 true })
      ∧ (s.intcon1.getLsbD 8 = false →
          applyEvent (.accCatastrophic .a v) s = .next { s with accA := v }
            ∧ applyEvent (.accCatastrophic .b v) s = .next { s with accB := v })
      ∧ applyEvent .divideByZero s = .next { s with intcon1 := setBit (setBit s.intcon1 6 true) 4 true }
      ∧ applyEvent .shiftError s = .next { s with intcon1 := setBit (setBit s.intcon1 7 true) 4 true }

/-- A carry out of bit 31 sets OA or OB, and sets OVAERR or OVBERR and MATHERR if OVATE or OVBTE is set; an operation
without overflow clears OA or OB (61_traps.md R286, R287, R292; that OA and OB are set is general knowledge G11, log 40). -/
def Obligations.AccumulatorOverflow : Prop :=
  ∀ (s : State) (v : AccVal),
    applyEvent (.accOverflow .a v) s = .next { s with
        accA := v
        sr := setBit s.sr 15 true
        intcon1 := if s.intcon1.getLsbD 10 then setBit (setBit s.intcon1 14 true) 4 true else s.intcon1 }
      ∧ applyEvent (.accOverflow .b v) s = .next { s with
          accB := v
          sr := setBit s.sr 14 true
          intcon1 := if s.intcon1.getLsbD 9 then setBit (setBit s.intcon1 13 true) 4 true else s.intcon1 }
      ∧ applyEvent (.accResult .a v) s = .next { s with accA := v, sr := setBit s.sr 15 false }
      ∧ applyEvent (.accResult .b v) s = .next { s with accB := v, sr := setBit s.sr 14 false }

/-- A DMA collision with a step that writes memory, an instruction, also one let through during the acknowledge delay, or
an exception entry: the CPU's write stands and DMACERR is set (61_traps.md R294). An instruction writes memory where its
store is good and reaches no register, an entry where its frame is good and one of its words does. A DMA write that does
not collide stores its byte in memory, and never in a register (20_memory.md R118, log 39). -/
def Obligations.DmaAndMemory : Prop :=
  (∀ (v t : State) (i : Instr) (rest : List PWord), progImplemented v.device v.pc = true →
    decode [v.progWord v.pc, v.progWord (nextPc v)] = .ok i rest → exec i v = .next t →
    executeInstruction true v = .next { t with intcon1 := if writesRam i v then setBit t.intcon1 5 true else t.intcon1 })
  ∧ (∀ (s u : State), Arbitrates s u → s.slot.dmaCollision = true →
      (u.winner = none → step s = executeInstruction true { u with stalePrio := [], skid := 0 })
      ∧ ∀ (r : Request) (t : State), u.winner = some r → exceptionEntry r { u with stalePrio := [] } = .next t →
        (step s = .next { t with intcon1 := if entryWritesRam u then setBit t.intcon1 5 true else t.intcon1 }
          ∨ u.skid < u.device.skidMax ∧ r.isHard = false
            ∧ step s = executeInstruction true { u with stalePrio := [], skid := u.skid + 1 }))
  ∧ (∀ (s : State) (f : DAddr) (g : BitVec 13) (d : WReg),
      (entryWritesRam s = true ↔ WordOk s s.sp ∧ WordOk s (frameSecond s)
          ∧ (sfrAt s.device s.sp = none ∨ sfrAt s.device (frameSecond s) = none))
      ∧ (writesRam (.movToFile d f) s = true ↔ WordOk s f ∧ sfrAt s.device f = none)
      ∧ (writesRam (.clr false true g) s = true ↔
          WordOk s (g.zeroExtend 16) ∧ sfrAt s.device (g.zeroExtend 16) = none)
      ∧ (writesRam (.clr true true g) s = true ↔ dataImplemented s.device (g.zeroExtend 16) = true
          ∧ sfrAt s.device (g.zeroExtend 16 &&& 0xFFFE#16) = none)
      ∧ (writesRam (.push f) s = true ↔ WordOk s f ∧ WordOk s s.sp ∧ sfrAt s.device s.sp = none)
      ∧ (writesRam (.pop f) s = true ↔ WordOk s (s.sp - 2#16) ∧ WordOk s f ∧ sfrAt s.device f = none))
  ∧ ∀ (s : State) (a : DAddr) (v : Byte), ∃ t, applyEvent (.dmaWrite a v) s = .next t ∧ t = { s with mem := t.mem }
      ∧ (dataImplemented s.device a = true → sfrAt s.device (a &&& 0xFFFE#16) = none → StoredByte s t a v)
      ∧ ((dataImplemented s.device a = false ∨ (sfrAt s.device (a &&& 0xFFFE#16)).isSome = true) → t = s)

/-- A source that fires sets its own flag and no other, in any state, if the device has it (60_exceptions.md R204); a pin
INTk sets its flag on the edge that INTkEP selects and on no other change (R206). -/
def Obligations.SourceAndPinEvents : Prop :=
  ∀ (s : State) (i j : Irq) (k m : Fin 5) (level : Bool),
    (∃ t, applyEvent (.fire i) s = .next t ∧ t = { s with ifs := t.ifs }
      ∧ (t.flag j = true ↔ s.flag j = true ∨ (i = j ∧ hasSource s.device i = true)))
    ∧ ∃ t, applyEvent (.pin k level) s = .next t ∧ t = { s with ifs := t.ifs, pins := t.pins }
      ∧ (t.pins.getLsbD m.val = if m = k then level else s.pins.getLsbD m.val)
      ∧ (t.flag j = true ↔ s.flag j = true
          ∨ (j = ([0, 20, 29, 53, 54] : List Irq).getD k.val 0 ∧ hasSource s.device j = true
            ∧ s.pins.getLsbD k.val ≠ level ∧ level = !s.intcon2.getLsbD k.val))

/-! ### Arbitration -/

/-- Eligibility of an interrupt and of a trap (60_exceptions.md R212). The priority that counts is `arbPrio`: the source's
IPC field, but for a source whose priority was written on the fly since the last arbitration, where it may be the old
one (70_reset_and_hazards.md R340; the model's choice, log 29). -/
def Obligations.Eligibility : Prop :=
  ∀ (s : State) (i : Irq) (t : Trap),
    (s.eligible i = true ↔ s.flag i = true ∧ s.en i = true ∧ s.cpuIpl.toNat < (s.arbPrio i).toNat
        ∧ ¬ (s.intcon2.getLsbD 14 = true ∧ (s.arbPrio i).toNat ≤ 6))
      ∧ ((∀ p ∈ s.stalePrio, p.1 ≠ i) → s.arbPrio i = s.prio i)
      ∧ (s.trapEligible t = true ↔ s.tflag t = true ∧ s.cpuIpl.toNat < t.level.toNat)

/-- The priority of a source written on the fly is the old or the new one at the next arbitration
(70_reset_and_hazards.md R340, 93_implementation_defined.md U1): a source with no note counts with its IPC field, and
after an IPC write with its old or its new field; a write that changes an enabled source's priority below CPU level 7
notes it, and any other write leaves only the new one (log 29). -/
def Obligations.PriorityChangedOnTheFly : Prop :=
  ∀ (s : State) (i : Irq) (j : Fin 18) (v be : Word),
    let t := s.writeSfr (.ipc j) v be
    (s.arbPrio i = s.prio i ∨ ∃ p, (i, p) ∈ s.stalePrio ∧ s.arbPrio i = p)
      ∧ ((∀ p ∈ s.stalePrio, p.1 ≠ i) → t.arbPrio i = s.prio i ∨ t.arbPrio i = t.prio i)
      ∧ ((∀ p ∈ s.stalePrio, p.1 ≠ i) → ∀ p, (i, p) ∈ t.stalePrio → p = s.prio i)
      ∧ (s.en i = true → s.cpuIpl.toNat < 7 → t.prio i ≠ s.prio i → (i, s.prio i) ∈ t.stalePrio)
      ∧ ((s.en i = false ∨ 7 ≤ s.cpuIpl.toNat) → (∀ p ∈ s.stalePrio, p.1 ≠ i) → t.arbPrio i = t.prio i)

/-- The winner of an arbitration: the eligible trap of the greatest level; with no eligible trap, the eligible source of the
greatest priority, the least irq among equals; nothing exactly when nothing is eligible (60_exceptions.md R213, R214). The
priority that ranks a source is `arbPrio`: its IPC field, or, after a write on the fly, the old or the new one
(70_reset_and_hazards.md R340; the model's choice, log 29). -/
def Obligations.WinnerOfArbitration : Prop :=
  ∀ s : State,
    (∀ t : Trap, s.winner = some (.trap t) ↔
      s.trapEligible t = true ∧ ∀ u : Trap, s.trapEligible u = true → u.level.toNat ≤ t.level.toNat)
    ∧ (∀ (i : Irq) (p : BitVec 3), s.winner = some (.irq i p) ↔
      (∀ u : Trap, s.trapEligible u = false) ∧ s.eligible i = true ∧ p = s.arbPrio i
        ∧ ∀ j : Irq, s.eligible j = true →
            (s.arbPrio j).toNat < p.toNat ∨ ((s.arbPrio j).toNat = p.toNat ∧ i.val ≤ j.val))
    ∧ (s.winner = none ↔ (∀ u : Trap, s.trapEligible u = false) ∧ ∀ j : Irq, s.eligible j = false)

/-- A hard trap that has won is entered at once; an interrupt or a soft trap is entered at once, or, while fewer than
SKID_MAX instructions have been let through, one more instruction runs first (60_exceptions.md R215 to R217). A DMA
collision in the slot accompanies the entry or the instruction (61_traps.md R294). -/
def Obligations.AcknowledgeDelay : Prop :=
  ∀ (s u : State) (r : Request), Arbitrates s u → u.winner = some r →
    let v := { u with stalePrio := [] }
    let entry := withCollision (s.slot.dmaCollision && entryWritesRam v) (exceptionEntry r v)
    ((r.level.toNat = 13 ∨ r.level.toNat = 14 ∨ u.device.skidMax ≤ u.skid) → step s = entry)
      ∧ (step s = entry
        ∨ u.skid < u.device.skidMax ∧ r.isHard = false
          ∧ step s = executeInstruction s.slot.dmaCollision { v with skid := u.skid + 1 })

/-! ### Taking an exception and returning -/

/-- The whole exception entry. With the frame in memory: the frame's two words, W15, the temporary buffer, the new
priority, INTTREG, the pc from the vector that ALTIVT selects, Run mode, the countdown; and nothing else, so that no
flag, enable or priority of a source changes. With W15 at any two implemented words, the registers among them: each word
of the frame is written where W15 points, to a register by its access codes, and the entry goes on from the state after
both (60_exceptions.md R222 to R227). The order and layout of the frame are the spec's decision D2 (log 21), VECNUM after
a trap is any value (log 25), a frame among the registers is log 36. -/
def Obligations.ExceptionEntryResult : Prop :=
  ∀ (r : Request) (s : State),
    (RamFrame s s.sp → ∃ t, exceptionEntry r s = .next t ∧ EntryEnds r (framePushed t.mem s) t ∧ FrameAt s t s.sp)
    ∧ (WordOk s s.sp → WordOk s (frameSecond s) →
        ∃ q1 q2 t, Wrote (latched s) s.sp (frameWord1 s) q1
          ∧ (pushed (latched s) q1).sp = frameSecond s
          ∧ Wrote (pushed (latched s) q1) (frameSecond s) (frameWord2 s) q2
          ∧ exceptionEntry r s = .next t ∧ EntryEnds r (pushed (pushed (latched s) q1) q2) t)

/-- An entry whose frame goes to a misaligned or unimplemented address raises the address error trap; where that is no
conflict both words are inhibited, ADDRERR is set, and the entry completes as any other: W15, the temporary buffer, the
priority, INTTREG, the pc from the vector, Run mode, the countdown, and no byte of memory. The entries that raise it are
those with one of the two words misaligned or unimplemented (60_exceptions.md R228, 61_traps.md R303; log 44). -/
def Obligations.EntryOnBadStack : Prop :=
  ∀ (r : Request) (s : State),
    (s.entryBad = true → RaisesHard .addressError s (exceptionEntry r s) fun t =>
      t.tflag .addressError = true ∧ MemoryKept s t
        ∧ EntryEnds r { framePushed s.mem s with intcon1 := setBit (framePushed s.mem s).intcon1 3 true } t)
    ∧ (s.entryBad = false ↔ WordOk s s.sp ∧ WordOk s (frameSecond s))

/-- RETFIE undoes an entry: from any state with room for the frame in memory, entry and then RETFIE give back the pc, SR,
IPL3 and so the CPU priority level, and W15; every flag, enable and priority of a source and every other working register
is as it was (60_exceptions.md R222, R231; 40_interrupt_instructions.md R154, R155). -/
def Obligations.RetfieUndoesEntry : Prop :=
  ∀ (r : Request) (s : State), RamFrame s s.sp → s.pc.getLsbD 0 = false → s.pc.toNat < 2 ^ s.device.pcw →
    ∃ t u, exceptionEntry r s = .next t ∧ exec .retfie t = .next u
      ∧ u.pc = s.pc ∧ u.sr = s.sr ∧ u.ipl3 = s.ipl3 ∧ u.cpuIpl = s.cpuIpl ∧ u.w = s.w
      ∧ u.ifs = s.ifs ∧ u.iec = s.iec ∧ u.ipc = s.ipc

/-- After an entry the CPU is at the level of the request, or at 7 for an interrupt with NSTDIS set, so no source of the
request's level or below is eligible, and with NSTDIS set no source at all (60_exceptions.md R223, R218, R233; that
NSTDIS does not force a trap's level is log 24). -/
def Obligations.EntryRaisesLevel : Prop :=
  ∀ (r : Request) (s t : State), s.winner = some r → RamFrame s s.sp → exceptionEntry r s = .next t →
    s.cpuIpl.toNat < t.cpuIpl.toNat
      ∧ (∀ k, r = .trap k → t.cpuIpl = k.level)
      ∧ (∀ i p, r = .irq i p → t.cpuIpl.toNat = if s.nstdis then 7 else p.toNat)
      ∧ ∀ j : Irq, ((t.arbPrio j).toNat ≤ r.level.toNat ∨ s.nstdis = true) → t.eligible j = false

/-! ### Sleep and Idle -/

/-- A step asleep: an enabled flagged source of priority 1 or more wakes the CPU, whatever the CPU level; otherwise an
eligible trap is a fault; otherwise nothing happens (60_exceptions.md R241). -/
def Obligations.PowerStep : Prop :=
  ∀ s u : State, applyEvents s.slot.events s.tickOver = .next u → u.mode ≠ .run →
    ((∃ i : Irq, u.flag i = true ∧ u.en i = true ∧ 1 ≤ (u.prio i).toNat) → step s = .next { u with mode := .run })
      ∧ ((∀ i : Irq, ¬ (u.flag i = true ∧ u.en i = true ∧ 1 ≤ (u.prio i).toNat)) →
          ((∃ t : Trap, u.trapEligible t = true) → step s = .fault .trapWhileAsleep)
            ∧ ((∀ t : Trap, u.trapEligible t = false) → step s = .next u))

/-! ### Registers through the data space -/

/-- A software write of SR or CORCON (10_state.md R28, R30, R32, R34): IPL<2:0> is read-only while NSTDIS = 1, IPL3 and
the saturation bits can only be cleared, and nothing else changes. -/
def Obligations.WriteStatusRegisters : Prop :=
  ∀ (s : State) (v be : Word),
    WrittenBy (srAccess s.nstdis) s.sr v be (s.writeSfr .sr v be).sr
      ∧ s.writeSfr .sr v be = { s with sr := (s.writeSfr .sr v be).sr }
      ∧ WrittenBy corconAccess s.corcon v be (s.writeSfr .corcon v be).corcon
      ∧ s.writeSfr .corcon v be = { s with corcon := (s.writeSfr .corcon v be).corcon }

/-- A software write of INTCON1 stores every implemented bit, but MATHERR stays 1 while an enabled accumulator overflow
stands, the enables and OA and OB taken as before the write (10_state.md R38, 61_traps.md R292; the spec's decision D28,
log 33). -/
def Obligations.WriteIntcon1 : Prop :=
  ∀ (s : State) (v be : Word),
    s.writeSfr .intcon1 v be = { s with intcon1 := (s.writeSfr .intcon1 v be).intcon1 }
      ∧ ∀ n, n < 16 → (s.writeSfr .intcon1 v be).intcon1.getLsbD n =
          if n = 0 ∨ be.getLsbD n = false then s.intcon1.getLsbD n
          else v.getLsbD n || (decide (n = 4) && s.intcon1.getLsbD 4
            && ((s.intcon1.getLsbD 10 && s.sr.getLsbD 15) || (s.intcon1.getLsbD 9 && s.sr.getLsbD 14)))

/-- A software write of INTCON2 stores ALTIVT and the edge bits, not DISI (10_state.md R42, R43); a changed edge bit may set
its own INTx flag, and no flag is cleared and no other set (60_exceptions.md R206; the spec's decision D26, log 30). -/
def Obligations.WriteIntcon2 : Prop :=
  ∀ (s : State) (v be : Word) (j : Irq),
    WrittenBy intcon2Access s.intcon2 v be (s.writeSfr .intcon2 v be).intcon2
      ∧ s.writeSfr .intcon2 v be
          = { s with intcon2 := (s.writeSfr .intcon2 v be).intcon2, ifs := (s.writeSfr .intcon2 v be).ifs }
      ∧ (s.flag j = true → (s.writeSfr .intcon2 v be).flag j = true)
      ∧ ((s.writeSfr .intcon2 v be).flag j = true → s.flag j = true
          ∨ ∃ k : Fin 5, j = ([0, 20, 29, 53, 54] : List Irq).getD k.val 0
              ∧ s.intcon2.getLsbD k.val ≠ (s.writeSfr .intcon2 v be).intcon2.getLsbD k.val)

/-- A software write of an IFS, IEC or IPC register stores its implemented bits, to 0 or to 1, and changes no other register
(11_interrupt_registers.md R74, R80, R81, R87). -/
def Obligations.WriteSourceRegisters : Prop :=
  ∀ (s : State) (k : Fin 5) (j : Fin 18) (v be : Word),
    (WrittenBy (sourceAccess s.device k) (s.ifs.get k) v be ((s.writeSfr (.ifs k) v be).ifs.get k)
        ∧ (∀ m : Fin 5, m ≠ k → (s.writeSfr (.ifs k) v be).ifs.get m = s.ifs.get m)
        ∧ s.writeSfr (.ifs k) v be = { s with ifs := (s.writeSfr (.ifs k) v be).ifs })
      ∧ (WrittenBy (sourceAccess s.device k) (s.iec.get k) v be ((s.writeSfr (.iec k) v be).iec.get k)
        ∧ (∀ m : Fin 5, m ≠ k → (s.writeSfr (.iec k) v be).iec.get m = s.iec.get m)
        ∧ s.writeSfr (.iec k) v be = { s with iec := (s.writeSfr (.iec k) v be).iec })
      ∧ (WrittenBy (ipcAccess s.device j) (s.ipc.get j) v be ((s.writeSfr (.ipc j) v be).ipc.get j)
        ∧ (∀ m : Fin 18, m ≠ j → (s.writeSfr (.ipc j) v be).ipc.get m = s.ipc.get m)
        ∧ s.writeSfr (.ipc j) v be
            = { s with ipc := (s.writeSfr (.ipc j) v be).ipc, stalePrio := (s.writeSfr (.ipc j) v be).stalePrio })

/-- A software write of DISICNT, of the word or of one byte, which merges with the count: during a DISI period the value
replaces the count, and ends the period if it is 0; outside one it starts nothing, and a non-zero value leaves the
register unspecified (40_interrupt_instructions.md R153; the byte write is log 35). -/
def Obligations.WriteDisicnt : Prop :=
  ∀ (s : State) (v be : Word) (n : BitVec 14),
    (∀ i, i < 14 → n.getLsbD i = if be.getLsbD i then v.getLsbD i else s.disicnt.getLsbD i) →
    let t := s.writeSfr .disicnt v be
    (s.disiActive = true → t = { s with disicnt := n, intcon2 := setBit s.intcon2 14 (n != 0#14) })
      ∧ (s.disiActive = false → n = 0#14 → t = { s with disicnt := 0#14 })
      ∧ (s.disiActive = false → n ≠ 0#14 → t = { s with disicnt := 0#14, disicntUnspecified := true })

/-- SPLIM: a word write stores it and arms the overflow check; a byte write stores half and arms nothing (10_state.md R25;
the byte write is log 35). An INTTREG write does nothing (R45). A write of 0 clears TRAPR and a write of 1 leaves a TRAPR
of 1 (70_reset_and_hazards.md R324; the clear is general knowledge G13, log 14). A write of W15 at its data address loads
it as a MOV does, a byte merged with the other one, and may set STKERR below 0x0800 (61_traps.md R281; the model's choice,
log 31). A write of OSCCON changes at most CF, and nothing where it does not cover that bit (R48; log 15). -/
def Obligations.WriteSplimInttregRcon : Prop :=
  ∀ (s : State) (v be : Word),
    s.writeSfr .splim v 0xFFFF#16 = { s with splim := v, splimWritten := true }
      ∧ s.writeSfr .splim v 0x00FF#16 = { s with splim := s.splim.extractLsb' 8 8 ++ v.extractLsb' 0 8 }
      ∧ s.writeSfr .splim v 0xFF00#16 = { s with splim := v.extractLsb' 8 8 ++ s.splim.extractLsb' 0 8 }
      ∧ s.writeSfr .inttreg v be = s
      ∧ s.writeSfr .rcon v be = { s with trapr := (s.writeSfr .rcon v be).trapr }
      ∧ (be.getLsbD 15 = true → v.getLsbD 15 = false → (s.writeSfr .rcon v be).trapr = false)
      ∧ (s.trapr = true → (be.getLsbD 15 = false ∨ v.getLsbD 15 = true) → (s.writeSfr .rcon v be).trapr = true)
      ∧ Loaded s 15#4 v (s.writeSfr .w15 v 0xFFFF#16)
      ∧ Loaded s 15#4 (s.sp.extractLsb' 8 8 ++ v.extractLsb' 0 8) (s.writeSfr .w15 v 0x00FF#16)
      ∧ Loaded s 15#4 (v.extractLsb' 8 8 ++ s.sp.extractLsb' 0 8) (s.writeSfr .w15 v 0xFF00#16)
      ∧ s.writeSfr .osccon v be = { s with cf := (s.writeSfr .osccon v be).cf }
      ∧ (be.getLsbD 3 = false → s.writeSfr .osccon v be = s)

/-- What a read of a register gives: its implemented bits, unimplemented bits 0, TRAPR and CF in their places, and W15
(00_scope.md R9; 10_state.md R25, R28, R32, R35, R38, R42, R45, R47, R48; 11_interrupt_registers.md R74, R81, R87). -/
def Obligations.ReadRegisters : Prop :=
  ∀ (s : State) (a : DAddr) (n : Nat), n < 16 →
    s.readSfr .w15 a = s.sp ∧ s.readSfr .sr a = s.sr
      ∧ (s.splimWritten = true → s.readSfr .splim a = s.splim)
      ∧ (s.readSfr .corcon a).getLsbD n = (decide (n ≤ 12) && s.corcon.getLsbD n)
      ∧ (s.readSfr .intcon1 a).getLsbD n = (decide (1 ≤ n) && s.intcon1.getLsbD n)
      ∧ (s.readSfr .intcon2 a).getLsbD n = (decide (n ≤ 4 ∨ 14 ≤ n) && s.intcon2.getLsbD n)
      ∧ (s.readSfr .inttreg a).getLsbD n = (decide (n ≤ 11 ∧ n ≠ 7) && s.inttreg.getLsbD n)
      ∧ (s.disicntUnspecified = false → s.readSfr .disicnt a = s.disicnt.zeroExtend 16)
      ∧ (14 ≤ n → (s.readSfr .disicnt a).getLsbD n = false)
      ∧ (s.readSfr .rcon a).getLsbD 15 = s.trapr ∧ (s.readSfr .osccon a).getLsbD 3 = s.cf
      ∧ (∀ k : Fin 5,
          (s.readSfr (.ifs k) a).getLsbD n = ((s.ifs.get k).getLsbD n && (sourceMask s.device k).getLsbD n)
            ∧ (s.readSfr (.iec k) a).getLsbD n = ((s.iec.get k).getLsbD n && (sourceMask s.device k).getLsbD n))
      ∧ (∀ j : Fin 18, (s.readSfr (.ipc j) a).getLsbD n = ((s.ipc.get j).getLsbD n && (ipcMask s.device j).getLsbD n))
      ∧ (∀ j : Fin 18, n % 4 = 3 → (s.readSfr (.ipc j) a).getLsbD n = false)
      ∧ (8 ≤ n → (s.readSfr (.ifs 4) a).getLsbD n = false ∧ (s.readSfr (.iec 4) a).getLsbD n = false)
      ∧ ∀ i : Irq,
          (s.readSfr (.ifs i.reg) a).getLsbD i.bit = s.flag i ∧ (s.readSfr (.iec i.reg) a).getLsbD i.bit = s.en i
            ∧ (s.readSfr (.ipc i.ipcReg) a).extractLsb' i.ipcLow 3 = s.prio i

/-- An assignment `<REG>bits.<FIELD> = v` is one read-modify-write of the register: the field of a source's flag, enable or
priority, IPL<2:0>, which NSTDIS makes read-only, and NSTDIS take the value, every other field stays; the slot's events
act before it (30_encoding.md R140, 20_memory.md R114; log 53). -/
def Obligations.AssignmentWritesOneField : Prop :=
  ∀ (s : State) (v : Word),
    (∀ i : Irq, hasSource s.device i = true →
      (∀ t, t = s.assign ⟨i.flagField, v⟩ →
        t = { s with ifs := t.ifs } ∧ t.flag i = v.getLsbD 0 ∧ ∀ j : Irq, j ≠ i → t.flag j = s.flag j)
      ∧ (∀ t, t = s.assign ⟨i.enableField, v⟩ →
        t = { s with iec := t.iec } ∧ t.en i = v.getLsbD 0 ∧ ∀ j : Irq, j ≠ i → t.en j = s.en j)
      ∧ (∀ t, t = s.assign ⟨i.prioField, v⟩ →
        t = { s with ipc := t.ipc, stalePrio := t.stalePrio } ∧ t.prio i = v.extractLsb' 0 3
          ∧ ∀ j : Irq, j ≠ i → t.prio j = s.prio j))
    ∧ (s.nstdis = false →
        s.assign ⟨iplField, v⟩ = { s with sr := s.sr.extractLsb' 8 8 ++ v.extractLsb' 0 3 ++ s.sr.extractLsb' 0 5 })
    ∧ (s.nstdis = true → s.assign ⟨iplField, v⟩ = s)
    ∧ s.assign ⟨nstdisField, v⟩ = { s with intcon1 := setBit s.intcon1 15 (v.getLsbD 0) }
    ∧ ∀ (a : Assignment) (u : State) (old new : Word), applyEvents s.slot.events s.tickOver = .next u →
        old = u.readSfr a.field.reg (sfrAddr u.device a.field.reg) →
        (∀ n, n < 16 → new.getLsbD n =
          if a.field.low ≤ n ∧ n < a.field.low + a.field.width then a.value.getLsbD (n - a.field.low)
          else old.getLsbD n) →
        assignStep a s = .next (u.writeSfr a.field.reg new 0xFFFF#16)

/-- Software and the priority level: no instruction but RETFIE sets IPL3, and while NSTDIS = 1 no instruction but RETFIE
changes IPL<2:0>, short of a Reset (10_state.md R30, R34). -/
def Obligations.SoftwareAndPriorityLevel : Prop :=
  ∀ (i : Instr) (s t : State), i ≠ .retfie → exec i s = .next t →
    (t.ipl3 = true → s.ipl3 = true) ∧ (s.nstdis = true → t.epoch = s.epoch → t.ipl = s.ipl)

/-- No instruction changes, short of a Reset, what software cannot write: INTTREG, the accumulators, the bits OA, OB, OAB,
DA and DC of SR, DL of CORCON, the pins, program memory, the device (10_state.md R28, R32, R45; 20_memory.md R120). -/
def Obligations.ExecKeepsReadOnlyState : Prop :=
  ∀ (i : Instr) (s t : State), exec i s = .next t → t.epoch = s.epoch →
    t.inttreg = s.inttreg ∧ t.accA = s.accA ∧ t.accB = s.accB ∧ t.sr &&& 0xCB00#16 = s.sr &&& 0xCB00#16
      ∧ t.corcon &&& 0x0700#16 = s.corcon &&& 0x0700#16 ∧ t.pins = s.pins ∧ t.prog = s.prog ∧ t.device = s.device

/-! ### Reset -/

/-- Every device Reset sets the pc to 0 (10_state.md R21). -/
def Obligations.ResetClearsPc : Prop :=
  State.reset.pc = 0x000000#23 ∧ ∀ (k : ResetKind) (s : State), (deviceReset k s).pc = 0x000000#23

/-- The values the spec gives for every kind of Reset, and what a Reset does not change (10_state.md R53, R54;
70_reset_and_hazards.md R320, R322; that the pin levels stay is log 42). -/
def Obligations.ResetValues : Prop :=
  ∀ (k : ResetKind) (s t : State), (t = deviceReset k s ∨ t = State.reset) →
    t.pc = 0#23 ∧ t.sp = 0x0800#16 ∧ t.splimWritten = false ∧ t.sr = 0#16 ∧ t.corcon = 0x0020#16 ∧ t.disicnt = 0#14
      ∧ t.intcon1 = 0#16 ∧ t.intcon2 = 0#16 ∧ t.inttreg = 0#16 ∧ (∀ m : Fin 5, t.ifs.get m = 0#16 ∧ t.iec.get m = 0#16)
      ∧ (∀ i : Irq, t.prio i = if hasSource t.device i then 4#3 else 0#3)
      ∧ t.mode = .run ∧ t.skid = 0 ∧ t.cpuIpl = 0#4 ∧ t.winner = none
      ∧ ((deviceReset k s).prog = s.prog ∧ (deviceReset k s).pins = s.pins)
      ∧ (k = .trapConflict → (deviceReset k s).trapr = true)

/-- The reset values of IPC0 to IPC17 on a device with every source of Table 6-1, after every kind of Reset
(11_interrupt_registers.md R90). -/
def Obligations.ResetPriorities : Prop :=
  ∀ (k : ResetKind) (s t : State), (t = State.reset ∨ (s.device = State.reset.device ∧ t = deviceReset k s)) →
    t.ipc = #v[0x4444#16, 0x4444#16, 0x4444#16, 0x0444#16, 0x4044#16, 0x4444#16, 0x4444#16, 0x4444#16, 0x4444#16,
      0x4444#16, 0x4444#16, 0x4404#16, 0x4444#16, 0x4444#16, 0x4444#16, 0x4044#16, 0x0444#16, 0x4444#16]

/-- The reserved sources have no bits on any device, and every other source of Table 6-1 has them exactly if it is in
SOURCES (11_interrupt_registers.md R72, R73). -/
def Obligations.ReservedSourcesHaveNoBits : Prop :=
  ∀ (d : Device) (i : Irq),
    hasSource d i = (d.sources.getLsbD i.val
      && !([15, 18, 45, 62, 67] : List Nat).contains i.val)

/-! ### Invariants -/

/-- Every step keeps PC<0> and W15<0> at 0 and the pc within PCW bits (10_state.md R20, R24; 20_memory.md R111;
00_scope.md R7). -/
def Obligations.StepKeepsEvenPointers : Prop :=
  ∀ s t : State, EvenPointers s → step s = .next t → EvenPointers t

/-- Every step keeps data memory and program memory in canonical form (the form is the model's, logs 9 and 10). -/
def Obligations.StepKeepsCanonicalMemory : Prop :=
  ∀ s t : State, Canonical s → step s = .next t → Canonical t

/-- Every step keeps INTCON2.DISI equal to `DISICNT is not 0` (10_state.md R43; 40_interrupt_instructions.md R151 to R153). -/
def Obligations.StepKeepsDisiConsistent : Prop :=
  ∀ s t : State, DisiConsistent s → step s = .next t → DisiConsistent t

/-- Every step keeps every unimplemented bit at 0 (00_scope.md R9). -/
def Obligations.StepKeepsReservedZero : Prop :=
  ∀ s t : State, ReservedZero s → step s = .next t → ReservedZero t

/-- The state after reset has the four invariants (10_state.md R53, R54). -/
def Obligations.ResetHasInvariants : Prop :=
  EvenPointers State.reset ∧ Canonical State.reset ∧ DisiConsistent State.reset ∧ ReservedZero State.reset

/-- Program memory and the device are constant during a run, whatever is executed (20_memory.md R120; the spec's decision
D16, log 19). -/
def Obligations.StepKeepsProgramAndDevice : Prop :=
  ∀ s t : State, step s = .next t → t.prog = s.prog ∧ t.device = s.device
end

