-- ==== Sys2Proof/Laws/Bits.lean ====
section
/-! SUPPORT. The bits of a word after a masked replacement, and what the named bits and fields read after a write of
another. -/

namespace Sys2Proof

@[simp] theorem getLsbD_replaceBits (old new mask : Word) (i : Nat) :
    (replaceBits old new mask).getLsbD i = if mask.getLsbD i then new.getLsbD i else old.getLsbD i := by
  unfold replaceBits
  by_cases h : i < 16
  · cases hm : mask.getLsbD i <;>
      simp only [BitVec.getLsbD_or, BitVec.getLsbD_and, BitVec.getLsbD_not, h, hm, decide_true, Bool.not_false,
        Bool.not_true, Bool.and_true, Bool.and_false, Bool.or_false, Bool.false_or, if_true, Bool.false_eq_true, if_false]
  · have hm : mask.getLsbD i = false := BitVec.getLsbD_of_ge mask i (by omega)
    have hn : new.getLsbD i = false := BitVec.getLsbD_of_ge new i (by omega)
    have ho : old.getLsbD i = false := BitVec.getLsbD_of_ge old i (by omega)
    simp [hm, hn, ho]

theorem getLsbD_allOnes_word (i : Nat) : (0xFFFF#16).getLsbD i = decide (i < 16) := by
  have : (0xFFFF#16) = BitVec.allOnes 16 := by decide
  rw [this, BitVec.getLsbD_allOnes]

theorem getLsbD_one_shiftLeft (i j : Nat) (hi : i < 16) : (1#16 <<< i).getLsbD j = decide (j = i) := by
  rw [BitVec.getLsbD_shiftLeft]
  by_cases hj : j < 16
  · by_cases hij : j < i
    · have : j ≠ i := by omega
      simp [hij, this]
    · by_cases he : j = i
      · subst he; simp [hj]
      · have : j - i ≠ 0 := by omega
        simp [hj, hij, he, this]
  · have : j ≠ i := by omega
    simp [hj, this]

/-- A set bit: bit `i` takes the value, every other bit stays. -/
theorem getLsbD_setBit (w : Word) (i j : Nat) (b : Bool) (hi : i < 16) :
    (setBit w i b).getLsbD j = if j = i then b else w.getLsbD j := by
  unfold setBit
  rw [getLsbD_replaceBits, getLsbD_one_shiftLeft i j hi]
  by_cases h : j = i
  · subst h; cases b <;> simp [getLsbD_allOnes_word, hi]
  · simp [h]

/-- Of two writes of one bit the last counts. -/
@[simp] theorem setBit_setBit (w : Word) (i : Nat) (a b : Bool) (hi : i < 16) :
    setBit (setBit w i a) i b = setBit w i b := by
  apply BitVec.eq_of_getLsbD_eq
  intro j _
  simp only [getLsbD_setBit _ _ _ _ hi]
  split <;> rfl

/-- A bit written with its own value. -/
theorem setBit_self (w : Word) (i : Nat) (hi : i < 16) : setBit w i (w.getLsbD i) = w := by
  apply BitVec.eq_of_getLsbD_eq
  intro j _
  rw [getLsbD_setBit _ _ _ _ hi]
  split
  · next h => rw [h]
  · rfl

/-- A masked word keeps the bits of the mask. -/
theorem getLsbD_and_word (w m : Word) (i : Nat) : (w &&& m).getLsbD i = (w.getLsbD i && m.getLsbD i) :=
  BitVec.getLsbD_and

/-- Two words are equal if their sixteen bits are. -/
theorem word_ext {v w : Word} (h : ∀ i, i < 16 → v.getLsbD i = w.getLsbD i) : v = w :=
  BitVec.eq_of_getLsbD_eq fun i hi => h i hi

/-- A masked word is zero if each bit of the mask is. -/
theorem and_eq_zero_iff (w m : Word) :
    w &&& m = 0#16 ↔ ∀ i, i < 16 → m.getLsbD i = true → w.getLsbD i = false := by
  constructor
  · intro h i _ hm
    have := congrArg (fun x => BitVec.getLsbD x i) h
    simpa [hm] using this
  · intro h
    apply word_ext
    intro i hi
    cases hm : m.getLsbD i
    · simp [hm]
    · simp [hm, h i hi hm]

/-- A replacement of the whole word. -/
theorem replaceBits_allOnes (old new : Word) : replaceBits old new 0xFFFF#16 = new := by
  apply word_ext
  intro i hi
  rw [getLsbD_replaceBits, getLsbD_allOnes_word]
  simp [hi]

/-- A masked replacement keeps zero bits outside its mask. -/
theorem replaceBits_and_zero (old new mask m : Word) (h : old &&& m = 0#16) (hd : mask &&& m = 0#16) :
    replaceBits old new mask &&& m = 0#16 := by
  rw [and_eq_zero_iff] at *
  intro i hi hm
  rw [getLsbD_replaceBits]
  have h1 := h i hi hm
  have h2 := hd i hi hm
  simp [h1, h2]

end Sys2Proof

namespace Sys2Proof.Machine

/-- The level of the CPU is below 8 exactly without a trap in progress. -/
theorem cpuIpl_toNat (s : State) : s.cpuIpl.toNat = (if s.ipl3 then 8 else 0) + s.ipl.toNat := by
  unfold State.cpuIpl
  rw [BitVec.toNat_append]
  have h := s.ipl.isLt
  cases s.ipl3
  · simp
  · have e : 1 <<< 3 ||| s.ipl.toNat = 2 ^ 3 * 1 + s.ipl.toNat :=
      (Nat.two_pow_add_eq_or_of_lt (i := 3) (by simpa using h) 1).symm
    simpa using e

end Sys2Proof.Machine
end

