-- ==== Sys2Proof/Laws/Memory.lean ====
section
/-! SUPPORT. The laws of the sparse memories: a read after a write, and the canonical form kept by every write. -/

namespace Sys2Proof.Machine

variable {α : Type}

theorem storeGet_storeSet_same (m : List (Nat × α)) (a : Nat) (v : α) :
    storeGet (storeSet m a v) a = some v := by
  induction m with
  | nil => simp [storeSet, storeGet]
  | cons c m ih =>
    obtain ⟨k, u⟩ := c
    by_cases h1 : a < k
    · simp [storeSet, storeGet, h1]
    · by_cases h2 : a = k
      · simp [storeSet, storeGet, h2]
      · simp [storeSet, storeGet, h1, h2, ih]

theorem storeGet_storeSet_other (m : List (Nat × α)) (a b : Nat) (v : α) (h : b ≠ a) :
    storeGet (storeSet m a v) b = storeGet m b := by
  induction m with
  | nil => simp [storeSet, storeGet, h]
  | cons c m ih =>
    obtain ⟨k, u⟩ := c
    by_cases h1 : a < k
    · simp [storeSet, storeGet, h1, h]
    · by_cases h2 : a = k
      · subst h2; simp [storeSet, storeGet, h]
      · by_cases h3 : b = k <;> simp [storeSet, storeGet, h1, h2, h3, ih]

theorem storeSorted_storeSet (m : List (Nat × α)) (lo a : Nat) (v : α) (ha : lo ≤ a)
    (h : storeSorted lo m = true) : storeSorted lo (storeSet m a v) = true := by
  induction m generalizing lo with
  | nil => simp [storeSet, storeSorted, ha]
  | cons c m ih =>
    obtain ⟨k, u⟩ := c
    simp only [storeSorted, Bool.and_eq_true, decide_eq_true_eq] at h
    by_cases h1 : a < k
    · simp [storeSet, storeSorted, h1, ha, h.2]
    · by_cases h2 : a = k
      · subst h2; simp [storeSet, storeSorted, ha, h.2]
      · simp only [storeSet, h1, h2, if_false, storeSorted, Bool.and_eq_true, decide_eq_true_eq]
        exact ⟨h.1, ih (k + 1) (by omega) h.2⟩

theorem storeAll_storeSet (p : Nat × α → Bool) (m : List (Nat × α)) (a : Nat) (v : α)
    (ha : p (a, v) = true) (h : m.all p = true) : (storeSet m a v).all p = true := by
  induction m with
  | nil => simp [storeSet, ha]
  | cons c m ih =>
    obtain ⟨k, u⟩ := c
    simp only [List.all_cons, Bool.and_eq_true] at h
    by_cases h1 : a < k
    · simp only [storeSet, h1, if_true, List.all_cons, ha, h.1, h.2, Bool.and_self]
    · by_cases h2 : a = k
      · simp only [storeSet, h2, lt_irrefl, if_false, if_true, List.all_cons, h.2, Bool.and_true]
        rw [← h2]; exact ha
      · simp only [storeSet, h1, h2, if_false, List.all_cons, h.1, ih h.2, Bool.and_self]

theorem memory_wf_set (m : Memory) (a : DAddr) (v : Byte) (h : Memory.wf m = true) :
    Memory.wf (storeSet m a.toNat v) = true := by
  simp only [Memory.wf, Bool.and_eq_true] at h ⊢
  exact ⟨storeSorted_storeSet m 0 _ v (Nat.zero_le _) h.1,
    storeAll_storeSet _ m _ v (decide_eq_true a.isLt) h.2⟩

theorem progMem_wf_set (m : ProgMem) (a : PAddr) (v : PWord) (hEven : a.toNat % 2 = 0) (h : ProgMem.wf m = true) :
    ProgMem.wf (storeSet m a.toNat v) = true := by
  simp only [ProgMem.wf, Bool.and_eq_true] at h ⊢
  exact ⟨storeSorted_storeSet m 0 _ v (Nat.zero_le _) h.1,
    storeAll_storeSet _ m _ v (by simp [hEven]; exact a.isLt) h.2⟩

/-! ### RAM -/

@[simp] theorem ramByte_setRamByte_same (s : State) (a : DAddr) (v : Byte) :
    (s.setRamByte a v).ramByte a = v := by
  simp [State.ramByte, State.setRamByte, storeGet_storeSet_same]

theorem ramByte_setRamByte_other (s : State) (a b : DAddr) (v : Byte) (h : b ≠ a) :
    (s.setRamByte a v).ramByte b = s.ramByte b := by
  have hn : b.toNat ≠ a.toNat := fun e => h (BitVec.eq_of_toNat_eq e)
  simp [State.ramByte, State.setRamByte, storeGet_storeSet_other _ _ _ _ hn]

theorem addr_succ_ne (a : DAddr) : a ≠ a + 1 := by
  intro h
  have := congrArg BitVec.toNat h
  simp [BitVec.toNat_add] at this
  omega

/-- The low byte of a stored word. -/
theorem ramByte_setRamWord_low (s : State) (a : DAddr) (v : Word) :
    (s.setRamWord a v).ramByte a = v.extractLsb' 0 8 := by
  rw [State.setRamWord, ramByte_setRamByte_other _ _ _ _ (addr_succ_ne a), ramByte_setRamByte_same]

/-- The high byte of a stored word. -/
theorem ramByte_setRamWord_high (s : State) (a : DAddr) (v : Word) :
    (s.setRamWord a v).ramByte (a + 1) = v.extractLsb' 8 8 := by
  rw [State.setRamWord, ramByte_setRamByte_same]

theorem ramByte_setRamWord_other (s : State) (a b : DAddr) (v : Word) (h0 : b ≠ a) (h1 : b ≠ a + 1) :
    (s.setRamWord a v).ramByte b = s.ramByte b := by
  rw [State.setRamWord, ramByte_setRamByte_other _ _ _ _ h1, ramByte_setRamByte_other _ _ _ _ h0]

theorem word_of_bytes (v : Word) : (v.extractLsb' 8 8 ++ v.extractLsb' 0 8 : BitVec (8 + 8)) = v := by
  apply BitVec.eq_of_getLsbD_eq
  intro i hi
  simp only [BitVec.getLsbD_append, BitVec.getLsbD_extractLsb']
  by_cases h : i < 8
  · simp [h]
  · have h8 : i - 8 < 8 := by omega
    have : 8 + (i - 8) = i := by omega
    simp [h, h8, this]

/-- A word read after a word write of the same address. -/
@[simp] theorem ramWord_setRamWord_same (s : State) (a : DAddr) (v : Word) :
    (s.setRamWord a v).ramWord a = v := by
  rw [State.ramWord, ramByte_setRamWord_low, ramByte_setRamWord_high]
  exact word_of_bytes v

theorem memory_wf_setRamWord (s : State) (a : DAddr) (v : Word) (h : s.mem.wf = true) :
    (s.setRamWord a v).mem.wf = true :=
  memory_wf_set _ _ _ (memory_wf_set _ _ _ h)

end Sys2Proof.Machine
end

