-- ==== Sys2Proof/Laws/State.lean ====
section
/-! SUPPORT. One lemma per field per named update of State: what each update leaves alone, and what it writes. -/

namespace Sys2Proof.Machine

section
variable (s : State)

/-! ### setIpl -/

@[simp] theorem setIpl_pc (v : BitVec 3) : (s.setIpl v).pc = s.pc := rfl
@[simp] theorem setIpl_w (v : BitVec 3) : (s.setIpl v).w = s.w := rfl
@[simp] theorem setIpl_splim (v : BitVec 3) : (s.setIpl v).splim = s.splim := rfl
@[simp] theorem setIpl_splimWritten (v : BitVec 3) : (s.setIpl v).splimWritten = s.splimWritten := rfl
@[simp] theorem setIpl_sr (v : BitVec 3) : (s.setIpl v).sr = replaceBits s.sr (v.zeroExtend 16 <<< 5) 0x00E0#16 := rfl
@[simp] theorem setIpl_corcon (v : BitVec 3) : (s.setIpl v).corcon = s.corcon := rfl
@[simp] theorem setIpl_accA (v : BitVec 3) : (s.setIpl v).accA = s.accA := rfl
@[simp] theorem setIpl_accB (v : BitVec 3) : (s.setIpl v).accB = s.accB := rfl
@[simp] theorem setIpl_disicnt (v : BitVec 3) : (s.setIpl v).disicnt = s.disicnt := rfl
@[simp] theorem setIpl_disicntUnspecified (v : BitVec 3) : (s.setIpl v).disicntUnspecified = s.disicntUnspecified := rfl
@[simp] theorem setIpl_intcon1 (v : BitVec 3) : (s.setIpl v).intcon1 = s.intcon1 := rfl
@[simp] theorem setIpl_intcon2 (v : BitVec 3) : (s.setIpl v).intcon2 = s.intcon2 := rfl
@[simp] theorem setIpl_inttreg (v : BitVec 3) : (s.setIpl v).inttreg = s.inttreg := rfl
@[simp] theorem setIpl_ifs (v : BitVec 3) : (s.setIpl v).ifs = s.ifs := rfl
@[simp] theorem setIpl_iec (v : BitVec 3) : (s.setIpl v).iec = s.iec := rfl
@[simp] theorem setIpl_ipc (v : BitVec 3) : (s.setIpl v).ipc = s.ipc := rfl
@[simp] theorem setIpl_trapr (v : BitVec 3) : (s.setIpl v).trapr = s.trapr := rfl
@[simp] theorem setIpl_cf (v : BitVec 3) : (s.setIpl v).cf = s.cf := rfl
@[simp] theorem setIpl_mode (v : BitVec 3) : (s.setIpl v).mode = s.mode := rfl
@[simp] theorem setIpl_pins (v : BitVec 3) : (s.setIpl v).pins = s.pins := rfl
@[simp] theorem setIpl_skid (v : BitVec 3) : (s.setIpl v).skid = s.skid := rfl
@[simp] theorem setIpl_tempPc (v : BitVec 3) : (s.setIpl v).tempPc = s.tempPc := rfl
@[simp] theorem setIpl_tempSrl (v : BitVec 3) : (s.setIpl v).tempSrl = s.tempSrl := rfl
@[simp] theorem setIpl_mem (v : BitVec 3) : (s.setIpl v).mem = s.mem := rfl
@[simp] theorem setIpl_prog (v : BitVec 3) : (s.setIpl v).prog = s.prog := rfl
@[simp] theorem setIpl_stalePrio (v : BitVec 3) : (s.setIpl v).stalePrio = s.stalePrio := rfl
@[simp] theorem setIpl_device (v : BitVec 3) : (s.setIpl v).device = s.device := rfl
@[simp] theorem setIpl_env (v : BitVec 3) : (s.setIpl v).env = s.env := rfl
@[simp] theorem setIpl_tick (v : BitVec 3) : (s.setIpl v).tick = s.tick := rfl
@[simp] theorem setIpl_epoch (v : BitVec 3) : (s.setIpl v).epoch = s.epoch := rfl

/-! ### setIpl3 -/

@[simp] theorem setIpl3_pc (b : Bool) : (s.setIpl3 b).pc = s.pc := rfl
@[simp] theorem setIpl3_w (b : Bool) : (s.setIpl3 b).w = s.w := rfl
@[simp] theorem setIpl3_splim (b : Bool) : (s.setIpl3 b).splim = s.splim := rfl
@[simp] theorem setIpl3_splimWritten (b : Bool) : (s.setIpl3 b).splimWritten = s.splimWritten := rfl
@[simp] theorem setIpl3_sr (b : Bool) : (s.setIpl3 b).sr = s.sr := rfl
@[simp] theorem setIpl3_corcon (b : Bool) : (s.setIpl3 b).corcon = setBit s.corcon 3 b := rfl
@[simp] theorem setIpl3_accA (b : Bool) : (s.setIpl3 b).accA = s.accA := rfl
@[simp] theorem setIpl3_accB (b : Bool) : (s.setIpl3 b).accB = s.accB := rfl
@[simp] theorem setIpl3_disicnt (b : Bool) : (s.setIpl3 b).disicnt = s.disicnt := rfl
@[simp] theorem setIpl3_disicntUnspecified (b : Bool) : (s.setIpl3 b).disicntUnspecified = s.disicntUnspecified := rfl
@[simp] theorem setIpl3_intcon1 (b : Bool) : (s.setIpl3 b).intcon1 = s.intcon1 := rfl
@[simp] theorem setIpl3_intcon2 (b : Bool) : (s.setIpl3 b).intcon2 = s.intcon2 := rfl
@[simp] theorem setIpl3_inttreg (b : Bool) : (s.setIpl3 b).inttreg = s.inttreg := rfl
@[simp] theorem setIpl3_ifs (b : Bool) : (s.setIpl3 b).ifs = s.ifs := rfl
@[simp] theorem setIpl3_iec (b : Bool) : (s.setIpl3 b).iec = s.iec := rfl
@[simp] theorem setIpl3_ipc (b : Bool) : (s.setIpl3 b).ipc = s.ipc := rfl
@[simp] theorem setIpl3_trapr (b : Bool) : (s.setIpl3 b).trapr = s.trapr := rfl
@[simp] theorem setIpl3_cf (b : Bool) : (s.setIpl3 b).cf = s.cf := rfl
@[simp] theorem setIpl3_mode (b : Bool) : (s.setIpl3 b).mode = s.mode := rfl
@[simp] theorem setIpl3_pins (b : Bool) : (s.setIpl3 b).pins = s.pins := rfl
@[simp] theorem setIpl3_skid (b : Bool) : (s.setIpl3 b).skid = s.skid := rfl
@[simp] theorem setIpl3_tempPc (b : Bool) : (s.setIpl3 b).tempPc = s.tempPc := rfl
@[simp] theorem setIpl3_tempSrl (b : Bool) : (s.setIpl3 b).tempSrl = s.tempSrl := rfl
@[simp] theorem setIpl3_mem (b : Bool) : (s.setIpl3 b).mem = s.mem := rfl
@[simp] theorem setIpl3_prog (b : Bool) : (s.setIpl3 b).prog = s.prog := rfl
@[simp] theorem setIpl3_stalePrio (b : Bool) : (s.setIpl3 b).stalePrio = s.stalePrio := rfl
@[simp] theorem setIpl3_device (b : Bool) : (s.setIpl3 b).device = s.device := rfl
@[simp] theorem setIpl3_env (b : Bool) : (s.setIpl3 b).env = s.env := rfl
@[simp] theorem setIpl3_tick (b : Bool) : (s.setIpl3 b).tick = s.tick := rfl
@[simp] theorem setIpl3_epoch (b : Bool) : (s.setIpl3 b).epoch = s.epoch := rfl

/-! ### setIntcon1Bit -/

@[simp] theorem setIntcon1Bit_pc (i : Nat) : (s.setIntcon1Bit i).pc = s.pc := rfl
@[simp] theorem setIntcon1Bit_w (i : Nat) : (s.setIntcon1Bit i).w = s.w := rfl
@[simp] theorem setIntcon1Bit_splim (i : Nat) : (s.setIntcon1Bit i).splim = s.splim := rfl
@[simp] theorem setIntcon1Bit_splimWritten (i : Nat) : (s.setIntcon1Bit i).splimWritten = s.splimWritten := rfl
@[simp] theorem setIntcon1Bit_sr (i : Nat) : (s.setIntcon1Bit i).sr = s.sr := rfl
@[simp] theorem setIntcon1Bit_corcon (i : Nat) : (s.setIntcon1Bit i).corcon = s.corcon := rfl
@[simp] theorem setIntcon1Bit_accA (i : Nat) : (s.setIntcon1Bit i).accA = s.accA := rfl
@[simp] theorem setIntcon1Bit_accB (i : Nat) : (s.setIntcon1Bit i).accB = s.accB := rfl
@[simp] theorem setIntcon1Bit_disicnt (i : Nat) : (s.setIntcon1Bit i).disicnt = s.disicnt := rfl
@[simp] theorem setIntcon1Bit_disicntUnspecified (i : Nat) : (s.setIntcon1Bit i).disicntUnspecified = s.disicntUnspecified := rfl
@[simp] theorem setIntcon1Bit_intcon1 (i : Nat) : (s.setIntcon1Bit i).intcon1 = setBit s.intcon1 i true := rfl
@[simp] theorem setIntcon1Bit_intcon2 (i : Nat) : (s.setIntcon1Bit i).intcon2 = s.intcon2 := rfl
@[simp] theorem setIntcon1Bit_inttreg (i : Nat) : (s.setIntcon1Bit i).inttreg = s.inttreg := rfl
@[simp] theorem setIntcon1Bit_ifs (i : Nat) : (s.setIntcon1Bit i).ifs = s.ifs := rfl
@[simp] theorem setIntcon1Bit_iec (i : Nat) : (s.setIntcon1Bit i).iec = s.iec := rfl
@[simp] theorem setIntcon1Bit_ipc (i : Nat) : (s.setIntcon1Bit i).ipc = s.ipc := rfl
@[simp] theorem setIntcon1Bit_trapr (i : Nat) : (s.setIntcon1Bit i).trapr = s.trapr := rfl
@[simp] theorem setIntcon1Bit_cf (i : Nat) : (s.setIntcon1Bit i).cf = s.cf := rfl
@[simp] theorem setIntcon1Bit_mode (i : Nat) : (s.setIntcon1Bit i).mode = s.mode := rfl
@[simp] theorem setIntcon1Bit_pins (i : Nat) : (s.setIntcon1Bit i).pins = s.pins := rfl
@[simp] theorem setIntcon1Bit_skid (i : Nat) : (s.setIntcon1Bit i).skid = s.skid := rfl
@[simp] theorem setIntcon1Bit_tempPc (i : Nat) : (s.setIntcon1Bit i).tempPc = s.tempPc := rfl
@[simp] theorem setIntcon1Bit_tempSrl (i : Nat) : (s.setIntcon1Bit i).tempSrl = s.tempSrl := rfl
@[simp] theorem setIntcon1Bit_mem (i : Nat) : (s.setIntcon1Bit i).mem = s.mem := rfl
@[simp] theorem setIntcon1Bit_prog (i : Nat) : (s.setIntcon1Bit i).prog = s.prog := rfl
@[simp] theorem setIntcon1Bit_stalePrio (i : Nat) : (s.setIntcon1Bit i).stalePrio = s.stalePrio := rfl
@[simp] theorem setIntcon1Bit_device (i : Nat) : (s.setIntcon1Bit i).device = s.device := rfl
@[simp] theorem setIntcon1Bit_env (i : Nat) : (s.setIntcon1Bit i).env = s.env := rfl
@[simp] theorem setIntcon1Bit_tick (i : Nat) : (s.setIntcon1Bit i).tick = s.tick := rfl
@[simp] theorem setIntcon1Bit_epoch (i : Nat) : (s.setIntcon1Bit i).epoch = s.epoch := rfl

/-! ### setTflag -/

@[simp] theorem setTflag_pc (t : Trap) : (s.setTflag t).pc = s.pc := rfl
@[simp] theorem setTflag_w (t : Trap) : (s.setTflag t).w = s.w := rfl
@[simp] theorem setTflag_splim (t : Trap) : (s.setTflag t).splim = s.splim := rfl
@[simp] theorem setTflag_splimWritten (t : Trap) : (s.setTflag t).splimWritten = s.splimWritten := rfl
@[simp] theorem setTflag_sr (t : Trap) : (s.setTflag t).sr = s.sr := rfl
@[simp] theorem setTflag_corcon (t : Trap) : (s.setTflag t).corcon = s.corcon := rfl
@[simp] theorem setTflag_accA (t : Trap) : (s.setTflag t).accA = s.accA := rfl
@[simp] theorem setTflag_accB (t : Trap) : (s.setTflag t).accB = s.accB := rfl
@[simp] theorem setTflag_disicnt (t : Trap) : (s.setTflag t).disicnt = s.disicnt := rfl
@[simp] theorem setTflag_disicntUnspecified (t : Trap) : (s.setTflag t).disicntUnspecified = s.disicntUnspecified := rfl
@[simp] theorem setTflag_intcon1 (t : Trap) : (s.setTflag t).intcon1 = setBit s.intcon1 t.bit true := rfl
@[simp] theorem setTflag_intcon2 (t : Trap) : (s.setTflag t).intcon2 = s.intcon2 := rfl
@[simp] theorem setTflag_inttreg (t : Trap) : (s.setTflag t).inttreg = s.inttreg := rfl
@[simp] theorem setTflag_ifs (t : Trap) : (s.setTflag t).ifs = s.ifs := rfl
@[simp] theorem setTflag_iec (t : Trap) : (s.setTflag t).iec = s.iec := rfl
@[simp] theorem setTflag_ipc (t : Trap) : (s.setTflag t).ipc = s.ipc := rfl
@[simp] theorem setTflag_trapr (t : Trap) : (s.setTflag t).trapr = s.trapr := rfl
@[simp] theorem setTflag_cf (t : Trap) : (s.setTflag t).cf = s.cf := rfl
@[simp] theorem setTflag_mode (t : Trap) : (s.setTflag t).mode = s.mode := rfl
@[simp] theorem setTflag_pins (t : Trap) : (s.setTflag t).pins = s.pins := rfl
@[simp] theorem setTflag_skid (t : Trap) : (s.setTflag t).skid = s.skid := rfl
@[simp] theorem setTflag_tempPc (t : Trap) : (s.setTflag t).tempPc = s.tempPc := rfl
@[simp] theorem setTflag_tempSrl (t : Trap) : (s.setTflag t).tempSrl = s.tempSrl := rfl
@[simp] theorem setTflag_mem (t : Trap) : (s.setTflag t).mem = s.mem := rfl
@[simp] theorem setTflag_prog (t : Trap) : (s.setTflag t).prog = s.prog := rfl
@[simp] theorem setTflag_stalePrio (t : Trap) : (s.setTflag t).stalePrio = s.stalePrio := rfl
@[simp] theorem setTflag_device (t : Trap) : (s.setTflag t).device = s.device := rfl
@[simp] theorem setTflag_env (t : Trap) : (s.setTflag t).env = s.env := rfl
@[simp] theorem setTflag_tick (t : Trap) : (s.setTflag t).tick = s.tick := rfl
@[simp] theorem setTflag_epoch (t : Trap) : (s.setTflag t).epoch = s.epoch := rfl

/-! ### setDisiActive -/

@[simp] theorem setDisiActive_pc (b : Bool) : (s.setDisiActive b).pc = s.pc := rfl
@[simp] theorem setDisiActive_w (b : Bool) : (s.setDisiActive b).w = s.w := rfl
@[simp] theorem setDisiActive_splim (b : Bool) : (s.setDisiActive b).splim = s.splim := rfl
@[simp] theorem setDisiActive_splimWritten (b : Bool) : (s.setDisiActive b).splimWritten = s.splimWritten := rfl
@[simp] theorem setDisiActive_sr (b : Bool) : (s.setDisiActive b).sr = s.sr := rfl
@[simp] theorem setDisiActive_corcon (b : Bool) : (s.setDisiActive b).corcon = s.corcon := rfl
@[simp] theorem setDisiActive_accA (b : Bool) : (s.setDisiActive b).accA = s.accA := rfl
@[simp] theorem setDisiActive_accB (b : Bool) : (s.setDisiActive b).accB = s.accB := rfl
@[simp] theorem setDisiActive_disicnt (b : Bool) : (s.setDisiActive b).disicnt = s.disicnt := rfl
@[simp] theorem setDisiActive_disicntUnspecified (b : Bool) : (s.setDisiActive b).disicntUnspecified = s.disicntUnspecified := rfl
@[simp] theorem setDisiActive_intcon1 (b : Bool) : (s.setDisiActive b).intcon1 = s.intcon1 := rfl
@[simp] theorem setDisiActive_intcon2 (b : Bool) : (s.setDisiActive b).intcon2 = setBit s.intcon2 14 b := rfl
@[simp] theorem setDisiActive_inttreg (b : Bool) : (s.setDisiActive b).inttreg = s.inttreg := rfl
@[simp] theorem setDisiActive_ifs (b : Bool) : (s.setDisiActive b).ifs = s.ifs := rfl
@[simp] theorem setDisiActive_iec (b : Bool) : (s.setDisiActive b).iec = s.iec := rfl
@[simp] theorem setDisiActive_ipc (b : Bool) : (s.setDisiActive b).ipc = s.ipc := rfl
@[simp] theorem setDisiActive_trapr (b : Bool) : (s.setDisiActive b).trapr = s.trapr := rfl
@[simp] theorem setDisiActive_cf (b : Bool) : (s.setDisiActive b).cf = s.cf := rfl
@[simp] theorem setDisiActive_mode (b : Bool) : (s.setDisiActive b).mode = s.mode := rfl
@[simp] theorem setDisiActive_pins (b : Bool) : (s.setDisiActive b).pins = s.pins := rfl
@[simp] theorem setDisiActive_skid (b : Bool) : (s.setDisiActive b).skid = s.skid := rfl
@[simp] theorem setDisiActive_tempPc (b : Bool) : (s.setDisiActive b).tempPc = s.tempPc := rfl
@[simp] theorem setDisiActive_tempSrl (b : Bool) : (s.setDisiActive b).tempSrl = s.tempSrl := rfl
@[simp] theorem setDisiActive_mem (b : Bool) : (s.setDisiActive b).mem = s.mem := rfl
@[simp] theorem setDisiActive_prog (b : Bool) : (s.setDisiActive b).prog = s.prog := rfl
@[simp] theorem setDisiActive_stalePrio (b : Bool) : (s.setDisiActive b).stalePrio = s.stalePrio := rfl
@[simp] theorem setDisiActive_device (b : Bool) : (s.setDisiActive b).device = s.device := rfl
@[simp] theorem setDisiActive_env (b : Bool) : (s.setDisiActive b).env = s.env := rfl
@[simp] theorem setDisiActive_tick (b : Bool) : (s.setDisiActive b).tick = s.tick := rfl
@[simp] theorem setDisiActive_epoch (b : Bool) : (s.setDisiActive b).epoch = s.epoch := rfl

/-! ### setW -/

@[simp] theorem setW_pc (r : WReg) (v : Word) : (s.setW r v).pc = s.pc := rfl
@[simp] theorem setW_w (r : WReg) (v : Word) : (s.setW r v).w = s.w.set r.toNat (if r = 15#4 then v &&& 0xFFFE#16 else v) r.isLt := rfl
@[simp] theorem setW_splim (r : WReg) (v : Word) : (s.setW r v).splim = s.splim := rfl
@[simp] theorem setW_splimWritten (r : WReg) (v : Word) : (s.setW r v).splimWritten = s.splimWritten := rfl
@[simp] theorem setW_sr (r : WReg) (v : Word) : (s.setW r v).sr = s.sr := rfl
@[simp] theorem setW_corcon (r : WReg) (v : Word) : (s.setW r v).corcon = s.corcon := rfl
@[simp] theorem setW_accA (r : WReg) (v : Word) : (s.setW r v).accA = s.accA := rfl
@[simp] theorem setW_accB (r : WReg) (v : Word) : (s.setW r v).accB = s.accB := rfl
@[simp] theorem setW_disicnt (r : WReg) (v : Word) : (s.setW r v).disicnt = s.disicnt := rfl
@[simp] theorem setW_disicntUnspecified (r : WReg) (v : Word) : (s.setW r v).disicntUnspecified = s.disicntUnspecified := rfl
@[simp] theorem setW_intcon1 (r : WReg) (v : Word) : (s.setW r v).intcon1 = s.intcon1 := rfl
@[simp] theorem setW_intcon2 (r : WReg) (v : Word) : (s.setW r v).intcon2 = s.intcon2 := rfl
@[simp] theorem setW_inttreg (r : WReg) (v : Word) : (s.setW r v).inttreg = s.inttreg := rfl
@[simp] theorem setW_ifs (r : WReg) (v : Word) : (s.setW r v).ifs = s.ifs := rfl
@[simp] theorem setW_iec (r : WReg) (v : Word) : (s.setW r v).iec = s.iec := rfl
@[simp] theorem setW_ipc (r : WReg) (v : Word) : (s.setW r v).ipc = s.ipc := rfl
@[simp] theorem setW_trapr (r : WReg) (v : Word) : (s.setW r v).trapr = s.trapr := rfl
@[simp] theorem setW_cf (r : WReg) (v : Word) : (s.setW r v).cf = s.cf := rfl
@[simp] theorem setW_mode (r : WReg) (v : Word) : (s.setW r v).mode = s.mode := rfl
@[simp] theorem setW_pins (r : WReg) (v : Word) : (s.setW r v).pins = s.pins := rfl
@[simp] theorem setW_skid (r : WReg) (v : Word) : (s.setW r v).skid = s.skid := rfl
@[simp] theorem setW_tempPc (r : WReg) (v : Word) : (s.setW r v).tempPc = s.tempPc := rfl
@[simp] theorem setW_tempSrl (r : WReg) (v : Word) : (s.setW r v).tempSrl = s.tempSrl := rfl
@[simp] theorem setW_mem (r : WReg) (v : Word) : (s.setW r v).mem = s.mem := rfl
@[simp] theorem setW_prog (r : WReg) (v : Word) : (s.setW r v).prog = s.prog := rfl
@[simp] theorem setW_stalePrio (r : WReg) (v : Word) : (s.setW r v).stalePrio = s.stalePrio := rfl
@[simp] theorem setW_device (r : WReg) (v : Word) : (s.setW r v).device = s.device := rfl
@[simp] theorem setW_env (r : WReg) (v : Word) : (s.setW r v).env = s.env := rfl
@[simp] theorem setW_tick (r : WReg) (v : Word) : (s.setW r v).tick = s.tick := rfl
@[simp] theorem setW_epoch (r : WReg) (v : Word) : (s.setW r v).epoch = s.epoch := rfl

/-! ### setSp -/

@[simp] theorem setSp_pc (v : Word) : (s.setSp v).pc = s.pc := rfl
@[simp] theorem setSp_splim (v : Word) : (s.setSp v).splim = s.splim := rfl
@[simp] theorem setSp_splimWritten (v : Word) : (s.setSp v).splimWritten = s.splimWritten := rfl
@[simp] theorem setSp_sr (v : Word) : (s.setSp v).sr = s.sr := rfl
@[simp] theorem setSp_corcon (v : Word) : (s.setSp v).corcon = s.corcon := rfl
@[simp] theorem setSp_accA (v : Word) : (s.setSp v).accA = s.accA := rfl
@[simp] theorem setSp_accB (v : Word) : (s.setSp v).accB = s.accB := rfl
@[simp] theorem setSp_disicnt (v : Word) : (s.setSp v).disicnt = s.disicnt := rfl
@[simp] theorem setSp_disicntUnspecified (v : Word) : (s.setSp v).disicntUnspecified = s.disicntUnspecified := rfl
@[simp] theorem setSp_intcon1 (v : Word) : (s.setSp v).intcon1 = s.intcon1 := rfl
@[simp] theorem setSp_intcon2 (v : Word) : (s.setSp v).intcon2 = s.intcon2 := rfl
@[simp] theorem setSp_inttreg (v : Word) : (s.setSp v).inttreg = s.inttreg := rfl
@[simp] theorem setSp_ifs (v : Word) : (s.setSp v).ifs = s.ifs := rfl
@[simp] theorem setSp_iec (v : Word) : (s.setSp v).iec = s.iec := rfl
@[simp] theorem setSp_ipc (v : Word) : (s.setSp v).ipc = s.ipc := rfl
@[simp] theorem setSp_trapr (v : Word) : (s.setSp v).trapr = s.trapr := rfl
@[simp] theorem setSp_cf (v : Word) : (s.setSp v).cf = s.cf := rfl
@[simp] theorem setSp_mode (v : Word) : (s.setSp v).mode = s.mode := rfl
@[simp] theorem setSp_pins (v : Word) : (s.setSp v).pins = s.pins := rfl
@[simp] theorem setSp_skid (v : Word) : (s.setSp v).skid = s.skid := rfl
@[simp] theorem setSp_tempPc (v : Word) : (s.setSp v).tempPc = s.tempPc := rfl
@[simp] theorem setSp_tempSrl (v : Word) : (s.setSp v).tempSrl = s.tempSrl := rfl
@[simp] theorem setSp_mem (v : Word) : (s.setSp v).mem = s.mem := rfl
@[simp] theorem setSp_prog (v : Word) : (s.setSp v).prog = s.prog := rfl
@[simp] theorem setSp_stalePrio (v : Word) : (s.setSp v).stalePrio = s.stalePrio := rfl
@[simp] theorem setSp_device (v : Word) : (s.setSp v).device = s.device := rfl
@[simp] theorem setSp_env (v : Word) : (s.setSp v).env = s.env := rfl
@[simp] theorem setSp_tick (v : Word) : (s.setSp v).tick = s.tick := rfl
@[simp] theorem setSp_epoch (v : Word) : (s.setSp v).epoch = s.epoch := rfl

/-! ### setPc -/

@[simp] theorem setPc_pc (a : PAddr) : (s.setPc a).pc = wrapPc s.device a := rfl
@[simp] theorem setPc_w (a : PAddr) : (s.setPc a).w = s.w := rfl
@[simp] theorem setPc_splim (a : PAddr) : (s.setPc a).splim = s.splim := rfl
@[simp] theorem setPc_splimWritten (a : PAddr) : (s.setPc a).splimWritten = s.splimWritten := rfl
@[simp] theorem setPc_sr (a : PAddr) : (s.setPc a).sr = s.sr := rfl
@[simp] theorem setPc_corcon (a : PAddr) : (s.setPc a).corcon = s.corcon := rfl
@[simp] theorem setPc_accA (a : PAddr) : (s.setPc a).accA = s.accA := rfl
@[simp] theorem setPc_accB (a : PAddr) : (s.setPc a).accB = s.accB := rfl
@[simp] theorem setPc_disicnt (a : PAddr) : (s.setPc a).disicnt = s.disicnt := rfl
@[simp] theorem setPc_disicntUnspecified (a : PAddr) : (s.setPc a).disicntUnspecified = s.disicntUnspecified := rfl
@[simp] theorem setPc_intcon1 (a : PAddr) : (s.setPc a).intcon1 = s.intcon1 := rfl
@[simp] theorem setPc_intcon2 (a : PAddr) : (s.setPc a).intcon2 = s.intcon2 := rfl
@[simp] theorem setPc_inttreg (a : PAddr) : (s.setPc a).inttreg = s.inttreg := rfl
@[simp] theorem setPc_ifs (a : PAddr) : (s.setPc a).ifs = s.ifs := rfl
@[simp] theorem setPc_iec (a : PAddr) : (s.setPc a).iec = s.iec := rfl
@[simp] theorem setPc_ipc (a : PAddr) : (s.setPc a).ipc = s.ipc := rfl
@[simp] theorem setPc_trapr (a : PAddr) : (s.setPc a).trapr = s.trapr := rfl
@[simp] theorem setPc_cf (a : PAddr) : (s.setPc a).cf = s.cf := rfl
@[simp] theorem setPc_mode (a : PAddr) : (s.setPc a).mode = s.mode := rfl
@[simp] theorem setPc_pins (a : PAddr) : (s.setPc a).pins = s.pins := rfl
@[simp] theorem setPc_skid (a : PAddr) : (s.setPc a).skid = s.skid := rfl
@[simp] theorem setPc_tempPc (a : PAddr) : (s.setPc a).tempPc = s.tempPc := rfl
@[simp] theorem setPc_tempSrl (a : PAddr) : (s.setPc a).tempSrl = s.tempSrl := rfl
@[simp] theorem setPc_mem (a : PAddr) : (s.setPc a).mem = s.mem := rfl
@[simp] theorem setPc_prog (a : PAddr) : (s.setPc a).prog = s.prog := rfl
@[simp] theorem setPc_stalePrio (a : PAddr) : (s.setPc a).stalePrio = s.stalePrio := rfl
@[simp] theorem setPc_device (a : PAddr) : (s.setPc a).device = s.device := rfl
@[simp] theorem setPc_env (a : PAddr) : (s.setPc a).env = s.env := rfl
@[simp] theorem setPc_tick (a : PAddr) : (s.setPc a).tick = s.tick := rfl
@[simp] theorem setPc_epoch (a : PAddr) : (s.setPc a).epoch = s.epoch := rfl

/-! ### advance -/

@[simp] theorem advance_pc (k : Nat) : (s.advance k).pc = wrapPc s.device (s.pc + BitVec.ofNat 23 k) := rfl
@[simp] theorem advance_w (k : Nat) : (s.advance k).w = s.w := rfl
@[simp] theorem advance_splim (k : Nat) : (s.advance k).splim = s.splim := rfl
@[simp] theorem advance_splimWritten (k : Nat) : (s.advance k).splimWritten = s.splimWritten := rfl
@[simp] theorem advance_sr (k : Nat) : (s.advance k).sr = s.sr := rfl
@[simp] theorem advance_corcon (k : Nat) : (s.advance k).corcon = s.corcon := rfl
@[simp] theorem advance_accA (k : Nat) : (s.advance k).accA = s.accA := rfl
@[simp] theorem advance_accB (k : Nat) : (s.advance k).accB = s.accB := rfl
@[simp] theorem advance_disicnt (k : Nat) : (s.advance k).disicnt = s.disicnt := rfl
@[simp] theorem advance_disicntUnspecified (k : Nat) : (s.advance k).disicntUnspecified = s.disicntUnspecified := rfl
@[simp] theorem advance_intcon1 (k : Nat) : (s.advance k).intcon1 = s.intcon1 := rfl
@[simp] theorem advance_intcon2 (k : Nat) : (s.advance k).intcon2 = s.intcon2 := rfl
@[simp] theorem advance_inttreg (k : Nat) : (s.advance k).inttreg = s.inttreg := rfl
@[simp] theorem advance_ifs (k : Nat) : (s.advance k).ifs = s.ifs := rfl
@[simp] theorem advance_iec (k : Nat) : (s.advance k).iec = s.iec := rfl
@[simp] theorem advance_ipc (k : Nat) : (s.advance k).ipc = s.ipc := rfl
@[simp] theorem advance_trapr (k : Nat) : (s.advance k).trapr = s.trapr := rfl
@[simp] theorem advance_cf (k : Nat) : (s.advance k).cf = s.cf := rfl
@[simp] theorem advance_mode (k : Nat) : (s.advance k).mode = s.mode := rfl
@[simp] theorem advance_pins (k : Nat) : (s.advance k).pins = s.pins := rfl
@[simp] theorem advance_skid (k : Nat) : (s.advance k).skid = s.skid := rfl
@[simp] theorem advance_tempPc (k : Nat) : (s.advance k).tempPc = s.tempPc := rfl
@[simp] theorem advance_tempSrl (k : Nat) : (s.advance k).tempSrl = s.tempSrl := rfl
@[simp] theorem advance_mem (k : Nat) : (s.advance k).mem = s.mem := rfl
@[simp] theorem advance_prog (k : Nat) : (s.advance k).prog = s.prog := rfl
@[simp] theorem advance_stalePrio (k : Nat) : (s.advance k).stalePrio = s.stalePrio := rfl
@[simp] theorem advance_device (k : Nat) : (s.advance k).device = s.device := rfl
@[simp] theorem advance_env (k : Nat) : (s.advance k).env = s.env := rfl
@[simp] theorem advance_tick (k : Nat) : (s.advance k).tick = s.tick := rfl
@[simp] theorem advance_epoch (k : Nat) : (s.advance k).epoch = s.epoch := rfl

/-! ### losePc -/

@[simp] theorem losePc_pc : (s.losePc).pc = wrapPc s.device (Config.freePc s.tick ++ 0#1) := rfl
@[simp] theorem losePc_w : (s.losePc).w = s.w := rfl
@[simp] theorem losePc_splim : (s.losePc).splim = s.splim := rfl
@[simp] theorem losePc_splimWritten : (s.losePc).splimWritten = s.splimWritten := rfl
@[simp] theorem losePc_sr : (s.losePc).sr = s.sr := rfl
@[simp] theorem losePc_corcon : (s.losePc).corcon = s.corcon := rfl
@[simp] theorem losePc_accA : (s.losePc).accA = s.accA := rfl
@[simp] theorem losePc_accB : (s.losePc).accB = s.accB := rfl
@[simp] theorem losePc_disicnt : (s.losePc).disicnt = s.disicnt := rfl
@[simp] theorem losePc_disicntUnspecified : (s.losePc).disicntUnspecified = s.disicntUnspecified := rfl
@[simp] theorem losePc_intcon1 : (s.losePc).intcon1 = s.intcon1 := rfl
@[simp] theorem losePc_intcon2 : (s.losePc).intcon2 = s.intcon2 := rfl
@[simp] theorem losePc_inttreg : (s.losePc).inttreg = s.inttreg := rfl
@[simp] theorem losePc_ifs : (s.losePc).ifs = s.ifs := rfl
@[simp] theorem losePc_iec : (s.losePc).iec = s.iec := rfl
@[simp] theorem losePc_ipc : (s.losePc).ipc = s.ipc := rfl
@[simp] theorem losePc_trapr : (s.losePc).trapr = s.trapr := rfl
@[simp] theorem losePc_cf : (s.losePc).cf = s.cf := rfl
@[simp] theorem losePc_mode : (s.losePc).mode = s.mode := rfl
@[simp] theorem losePc_pins : (s.losePc).pins = s.pins := rfl
@[simp] theorem losePc_skid : (s.losePc).skid = s.skid := rfl
@[simp] theorem losePc_tempPc : (s.losePc).tempPc = s.tempPc := rfl
@[simp] theorem losePc_tempSrl : (s.losePc).tempSrl = s.tempSrl := rfl
@[simp] theorem losePc_mem : (s.losePc).mem = s.mem := rfl
@[simp] theorem losePc_prog : (s.losePc).prog = s.prog := rfl
@[simp] theorem losePc_stalePrio : (s.losePc).stalePrio = s.stalePrio := rfl
@[simp] theorem losePc_device : (s.losePc).device = s.device := rfl
@[simp] theorem losePc_env : (s.losePc).env = s.env := rfl
@[simp] theorem losePc_tick : (s.losePc).tick = s.tick := rfl
@[simp] theorem losePc_epoch : (s.losePc).epoch = s.epoch := rfl

/-! ### latchTemp -/

@[simp] theorem latchTemp_pc : (s.latchTemp).pc = s.pc := rfl
@[simp] theorem latchTemp_w : (s.latchTemp).w = s.w := rfl
@[simp] theorem latchTemp_splim : (s.latchTemp).splim = s.splim := rfl
@[simp] theorem latchTemp_splimWritten : (s.latchTemp).splimWritten = s.splimWritten := rfl
@[simp] theorem latchTemp_sr : (s.latchTemp).sr = s.sr := rfl
@[simp] theorem latchTemp_corcon : (s.latchTemp).corcon = s.corcon := rfl
@[simp] theorem latchTemp_accA : (s.latchTemp).accA = s.accA := rfl
@[simp] theorem latchTemp_accB : (s.latchTemp).accB = s.accB := rfl
@[simp] theorem latchTemp_disicnt : (s.latchTemp).disicnt = s.disicnt := rfl
@[simp] theorem latchTemp_disicntUnspecified : (s.latchTemp).disicntUnspecified = s.disicntUnspecified := rfl
@[simp] theorem latchTemp_intcon1 : (s.latchTemp).intcon1 = s.intcon1 := rfl
@[simp] theorem latchTemp_intcon2 : (s.latchTemp).intcon2 = s.intcon2 := rfl
@[simp] theorem latchTemp_inttreg : (s.latchTemp).inttreg = s.inttreg := rfl
@[simp] theorem latchTemp_ifs : (s.latchTemp).ifs = s.ifs := rfl
@[simp] theorem latchTemp_iec : (s.latchTemp).iec = s.iec := rfl
@[simp] theorem latchTemp_ipc : (s.latchTemp).ipc = s.ipc := rfl
@[simp] theorem latchTemp_trapr : (s.latchTemp).trapr = s.trapr := rfl
@[simp] theorem latchTemp_cf : (s.latchTemp).cf = s.cf := rfl
@[simp] theorem latchTemp_mode : (s.latchTemp).mode = s.mode := rfl
@[simp] theorem latchTemp_pins : (s.latchTemp).pins = s.pins := rfl
@[simp] theorem latchTemp_skid : (s.latchTemp).skid = s.skid := rfl
@[simp] theorem latchTemp_tempPc : (s.latchTemp).tempPc = s.pc := rfl
@[simp] theorem latchTemp_tempSrl : (s.latchTemp).tempSrl = s.srl := rfl
@[simp] theorem latchTemp_mem : (s.latchTemp).mem = s.mem := rfl
@[simp] theorem latchTemp_prog : (s.latchTemp).prog = s.prog := rfl
@[simp] theorem latchTemp_stalePrio : (s.latchTemp).stalePrio = s.stalePrio := rfl
@[simp] theorem latchTemp_device : (s.latchTemp).device = s.device := rfl
@[simp] theorem latchTemp_env : (s.latchTemp).env = s.env := rfl
@[simp] theorem latchTemp_tick : (s.latchTemp).tick = s.tick := rfl
@[simp] theorem latchTemp_epoch : (s.latchTemp).epoch = s.epoch := rfl

/-! ### setRamByte -/

@[simp] theorem setRamByte_pc (a : DAddr) (v : Byte) : (s.setRamByte a v).pc = s.pc := rfl
@[simp] theorem setRamByte_w (a : DAddr) (v : Byte) : (s.setRamByte a v).w = s.w := rfl
@[simp] theorem setRamByte_splim (a : DAddr) (v : Byte) : (s.setRamByte a v).splim = s.splim := rfl
@[simp] theorem setRamByte_splimWritten (a : DAddr) (v : Byte) : (s.setRamByte a v).splimWritten = s.splimWritten := rfl
@[simp] theorem setRamByte_sr (a : DAddr) (v : Byte) : (s.setRamByte a v).sr = s.sr := rfl
@[simp] theorem setRamByte_corcon (a : DAddr) (v : Byte) : (s.setRamByte a v).corcon = s.corcon := rfl
@[simp] theorem setRamByte_accA (a : DAddr) (v : Byte) : (s.setRamByte a v).accA = s.accA := rfl
@[simp] theorem setRamByte_accB (a : DAddr) (v : Byte) : (s.setRamByte a v).accB = s.accB := rfl
@[simp] theorem setRamByte_disicnt (a : DAddr) (v : Byte) : (s.setRamByte a v).disicnt = s.disicnt := rfl
@[simp] theorem setRamByte_disicntUnspecified (a : DAddr) (v : Byte) : (s.setRamByte a v).disicntUnspecified = s.disicntUnspecified := rfl
@[simp] theorem setRamByte_intcon1 (a : DAddr) (v : Byte) : (s.setRamByte a v).intcon1 = s.intcon1 := rfl
@[simp] theorem setRamByte_intcon2 (a : DAddr) (v : Byte) : (s.setRamByte a v).intcon2 = s.intcon2 := rfl
@[simp] theorem setRamByte_inttreg (a : DAddr) (v : Byte) : (s.setRamByte a v).inttreg = s.inttreg := rfl
@[simp] theorem setRamByte_ifs (a : DAddr) (v : Byte) : (s.setRamByte a v).ifs = s.ifs := rfl
@[simp] theorem setRamByte_iec (a : DAddr) (v : Byte) : (s.setRamByte a v).iec = s.iec := rfl
@[simp] theorem setRamByte_ipc (a : DAddr) (v : Byte) : (s.setRamByte a v).ipc = s.ipc := rfl
@[simp] theorem setRamByte_trapr (a : DAddr) (v : Byte) : (s.setRamByte a v).trapr = s.trapr := rfl
@[simp] theorem setRamByte_cf (a : DAddr) (v : Byte) : (s.setRamByte a v).cf = s.cf := rfl
@[simp] theorem setRamByte_mode (a : DAddr) (v : Byte) : (s.setRamByte a v).mode = s.mode := rfl
@[simp] theorem setRamByte_pins (a : DAddr) (v : Byte) : (s.setRamByte a v).pins = s.pins := rfl
@[simp] theorem setRamByte_skid (a : DAddr) (v : Byte) : (s.setRamByte a v).skid = s.skid := rfl
@[simp] theorem setRamByte_tempPc (a : DAddr) (v : Byte) : (s.setRamByte a v).tempPc = s.tempPc := rfl
@[simp] theorem setRamByte_tempSrl (a : DAddr) (v : Byte) : (s.setRamByte a v).tempSrl = s.tempSrl := rfl
@[simp] theorem setRamByte_mem (a : DAddr) (v : Byte) : (s.setRamByte a v).mem = storeSet s.mem a.toNat v := rfl
@[simp] theorem setRamByte_prog (a : DAddr) (v : Byte) : (s.setRamByte a v).prog = s.prog := rfl
@[simp] theorem setRamByte_stalePrio (a : DAddr) (v : Byte) : (s.setRamByte a v).stalePrio = s.stalePrio := rfl
@[simp] theorem setRamByte_device (a : DAddr) (v : Byte) : (s.setRamByte a v).device = s.device := rfl
@[simp] theorem setRamByte_env (a : DAddr) (v : Byte) : (s.setRamByte a v).env = s.env := rfl
@[simp] theorem setRamByte_tick (a : DAddr) (v : Byte) : (s.setRamByte a v).tick = s.tick := rfl
@[simp] theorem setRamByte_epoch (a : DAddr) (v : Byte) : (s.setRamByte a v).epoch = s.epoch := rfl

/-! ### setRamWord -/

@[simp] theorem setRamWord_pc (a : DAddr) (v : Word) : (s.setRamWord a v).pc = s.pc := rfl
@[simp] theorem setRamWord_w (a : DAddr) (v : Word) : (s.setRamWord a v).w = s.w := rfl
@[simp] theorem setRamWord_splim (a : DAddr) (v : Word) : (s.setRamWord a v).splim = s.splim := rfl
@[simp] theorem setRamWord_splimWritten (a : DAddr) (v : Word) : (s.setRamWord a v).splimWritten = s.splimWritten := rfl
@[simp] theorem setRamWord_sr (a : DAddr) (v : Word) : (s.setRamWord a v).sr = s.sr := rfl
@[simp] theorem setRamWord_corcon (a : DAddr) (v : Word) : (s.setRamWord a v).corcon = s.corcon := rfl
@[simp] theorem setRamWord_accA (a : DAddr) (v : Word) : (s.setRamWord a v).accA = s.accA := rfl
@[simp] theorem setRamWord_accB (a : DAddr) (v : Word) : (s.setRamWord a v).accB = s.accB := rfl
@[simp] theorem setRamWord_disicnt (a : DAddr) (v : Word) : (s.setRamWord a v).disicnt = s.disicnt := rfl
@[simp] theorem setRamWord_disicntUnspecified (a : DAddr) (v : Word) : (s.setRamWord a v).disicntUnspecified = s.disicntUnspecified := rfl
@[simp] theorem setRamWord_intcon1 (a : DAddr) (v : Word) : (s.setRamWord a v).intcon1 = s.intcon1 := rfl
@[simp] theorem setRamWord_intcon2 (a : DAddr) (v : Word) : (s.setRamWord a v).intcon2 = s.intcon2 := rfl
@[simp] theorem setRamWord_inttreg (a : DAddr) (v : Word) : (s.setRamWord a v).inttreg = s.inttreg := rfl
@[simp] theorem setRamWord_ifs (a : DAddr) (v : Word) : (s.setRamWord a v).ifs = s.ifs := rfl
@[simp] theorem setRamWord_iec (a : DAddr) (v : Word) : (s.setRamWord a v).iec = s.iec := rfl
@[simp] theorem setRamWord_ipc (a : DAddr) (v : Word) : (s.setRamWord a v).ipc = s.ipc := rfl
@[simp] theorem setRamWord_trapr (a : DAddr) (v : Word) : (s.setRamWord a v).trapr = s.trapr := rfl
@[simp] theorem setRamWord_cf (a : DAddr) (v : Word) : (s.setRamWord a v).cf = s.cf := rfl
@[simp] theorem setRamWord_mode (a : DAddr) (v : Word) : (s.setRamWord a v).mode = s.mode := rfl
@[simp] theorem setRamWord_pins (a : DAddr) (v : Word) : (s.setRamWord a v).pins = s.pins := rfl
@[simp] theorem setRamWord_skid (a : DAddr) (v : Word) : (s.setRamWord a v).skid = s.skid := rfl
@[simp] theorem setRamWord_tempPc (a : DAddr) (v : Word) : (s.setRamWord a v).tempPc = s.tempPc := rfl
@[simp] theorem setRamWord_tempSrl (a : DAddr) (v : Word) : (s.setRamWord a v).tempSrl = s.tempSrl := rfl
@[simp] theorem setRamWord_prog (a : DAddr) (v : Word) : (s.setRamWord a v).prog = s.prog := rfl
@[simp] theorem setRamWord_stalePrio (a : DAddr) (v : Word) : (s.setRamWord a v).stalePrio = s.stalePrio := rfl
@[simp] theorem setRamWord_device (a : DAddr) (v : Word) : (s.setRamWord a v).device = s.device := rfl
@[simp] theorem setRamWord_env (a : DAddr) (v : Word) : (s.setRamWord a v).env = s.env := rfl
@[simp] theorem setRamWord_tick (a : DAddr) (v : Word) : (s.setRamWord a v).tick = s.tick := rfl
@[simp] theorem setRamWord_epoch (a : DAddr) (v : Word) : (s.setRamWord a v).epoch = s.epoch := rfl

/-! ### setFlag -/

@[simp] theorem setFlag_pc (i : Irq) : (s.setFlag i).pc = s.pc := rfl
@[simp] theorem setFlag_w (i : Irq) : (s.setFlag i).w = s.w := rfl
@[simp] theorem setFlag_splim (i : Irq) : (s.setFlag i).splim = s.splim := rfl
@[simp] theorem setFlag_splimWritten (i : Irq) : (s.setFlag i).splimWritten = s.splimWritten := rfl
@[simp] theorem setFlag_sr (i : Irq) : (s.setFlag i).sr = s.sr := rfl
@[simp] theorem setFlag_corcon (i : Irq) : (s.setFlag i).corcon = s.corcon := rfl
@[simp] theorem setFlag_accA (i : Irq) : (s.setFlag i).accA = s.accA := rfl
@[simp] theorem setFlag_accB (i : Irq) : (s.setFlag i).accB = s.accB := rfl
@[simp] theorem setFlag_disicnt (i : Irq) : (s.setFlag i).disicnt = s.disicnt := rfl
@[simp] theorem setFlag_disicntUnspecified (i : Irq) : (s.setFlag i).disicntUnspecified = s.disicntUnspecified := rfl
@[simp] theorem setFlag_intcon1 (i : Irq) : (s.setFlag i).intcon1 = s.intcon1 := rfl
@[simp] theorem setFlag_intcon2 (i : Irq) : (s.setFlag i).intcon2 = s.intcon2 := rfl
@[simp] theorem setFlag_inttreg (i : Irq) : (s.setFlag i).inttreg = s.inttreg := rfl
@[simp] theorem setFlag_ifs (i : Irq) : (s.setFlag i).ifs = withFlag s.device i s.ifs := rfl
@[simp] theorem setFlag_iec (i : Irq) : (s.setFlag i).iec = s.iec := rfl
@[simp] theorem setFlag_ipc (i : Irq) : (s.setFlag i).ipc = s.ipc := rfl
@[simp] theorem setFlag_trapr (i : Irq) : (s.setFlag i).trapr = s.trapr := rfl
@[simp] theorem setFlag_cf (i : Irq) : (s.setFlag i).cf = s.cf := rfl
@[simp] theorem setFlag_mode (i : Irq) : (s.setFlag i).mode = s.mode := rfl
@[simp] theorem setFlag_pins (i : Irq) : (s.setFlag i).pins = s.pins := rfl
@[simp] theorem setFlag_skid (i : Irq) : (s.setFlag i).skid = s.skid := rfl
@[simp] theorem setFlag_tempPc (i : Irq) : (s.setFlag i).tempPc = s.tempPc := rfl
@[simp] theorem setFlag_tempSrl (i : Irq) : (s.setFlag i).tempSrl = s.tempSrl := rfl
@[simp] theorem setFlag_mem (i : Irq) : (s.setFlag i).mem = s.mem := rfl
@[simp] theorem setFlag_prog (i : Irq) : (s.setFlag i).prog = s.prog := rfl
@[simp] theorem setFlag_stalePrio (i : Irq) : (s.setFlag i).stalePrio = s.stalePrio := rfl
@[simp] theorem setFlag_device (i : Irq) : (s.setFlag i).device = s.device := rfl
@[simp] theorem setFlag_env (i : Irq) : (s.setFlag i).env = s.env := rfl
@[simp] theorem setFlag_tick (i : Irq) : (s.setFlag i).tick = s.tick := rfl
@[simp] theorem setFlag_epoch (i : Irq) : (s.setFlag i).epoch = s.epoch := rfl

/-! ### setTflagIf -/

@[simp] theorem setTflagIf_pc (b : Bool) (t : Trap) : (s.setTflagIf b t).pc = s.pc := rfl
@[simp] theorem setTflagIf_w (b : Bool) (t : Trap) : (s.setTflagIf b t).w = s.w := rfl
@[simp] theorem setTflagIf_splim (b : Bool) (t : Trap) : (s.setTflagIf b t).splim = s.splim := rfl
@[simp] theorem setTflagIf_splimWritten (b : Bool) (t : Trap) :
    (s.setTflagIf b t).splimWritten = s.splimWritten :=
  rfl
@[simp] theorem setTflagIf_sr (b : Bool) (t : Trap) : (s.setTflagIf b t).sr = s.sr := rfl
@[simp] theorem setTflagIf_corcon (b : Bool) (t : Trap) : (s.setTflagIf b t).corcon = s.corcon := rfl
@[simp] theorem setTflagIf_accA (b : Bool) (t : Trap) : (s.setTflagIf b t).accA = s.accA := rfl
@[simp] theorem setTflagIf_accB (b : Bool) (t : Trap) : (s.setTflagIf b t).accB = s.accB := rfl
@[simp] theorem setTflagIf_disicnt (b : Bool) (t : Trap) : (s.setTflagIf b t).disicnt = s.disicnt := rfl
@[simp] theorem setTflagIf_disicntUnspecified (b : Bool) (t : Trap) :
    (s.setTflagIf b t).disicntUnspecified = s.disicntUnspecified :=
  rfl
@[simp] theorem setTflagIf_intcon1 (b : Bool) (t : Trap) :
    (s.setTflagIf b t).intcon1 = if b then setBit s.intcon1 t.bit true else s.intcon1 :=
  rfl
@[simp] theorem setTflagIf_intcon2 (b : Bool) (t : Trap) : (s.setTflagIf b t).intcon2 = s.intcon2 := rfl
@[simp] theorem setTflagIf_inttreg (b : Bool) (t : Trap) : (s.setTflagIf b t).inttreg = s.inttreg := rfl
@[simp] theorem setTflagIf_ifs (b : Bool) (t : Trap) : (s.setTflagIf b t).ifs = s.ifs := rfl
@[simp] theorem setTflagIf_iec (b : Bool) (t : Trap) : (s.setTflagIf b t).iec = s.iec := rfl
@[simp] theorem setTflagIf_ipc (b : Bool) (t : Trap) : (s.setTflagIf b t).ipc = s.ipc := rfl
@[simp] theorem setTflagIf_trapr (b : Bool) (t : Trap) : (s.setTflagIf b t).trapr = s.trapr := rfl
@[simp] theorem setTflagIf_cf (b : Bool) (t : Trap) : (s.setTflagIf b t).cf = s.cf := rfl
@[simp] theorem setTflagIf_mode (b : Bool) (t : Trap) : (s.setTflagIf b t).mode = s.mode := rfl
@[simp] theorem setTflagIf_pins (b : Bool) (t : Trap) : (s.setTflagIf b t).pins = s.pins := rfl
@[simp] theorem setTflagIf_skid (b : Bool) (t : Trap) : (s.setTflagIf b t).skid = s.skid := rfl
@[simp] theorem setTflagIf_tempPc (b : Bool) (t : Trap) : (s.setTflagIf b t).tempPc = s.tempPc := rfl
@[simp] theorem setTflagIf_tempSrl (b : Bool) (t : Trap) : (s.setTflagIf b t).tempSrl = s.tempSrl := rfl
@[simp] theorem setTflagIf_mem (b : Bool) (t : Trap) : (s.setTflagIf b t).mem = s.mem := rfl
@[simp] theorem setTflagIf_prog (b : Bool) (t : Trap) : (s.setTflagIf b t).prog = s.prog := rfl
@[simp] theorem setTflagIf_stalePrio (b : Bool) (t : Trap) : (s.setTflagIf b t).stalePrio = s.stalePrio := rfl
@[simp] theorem setTflagIf_device (b : Bool) (t : Trap) : (s.setTflagIf b t).device = s.device := rfl
@[simp] theorem setTflagIf_env (b : Bool) (t : Trap) : (s.setTflagIf b t).env = s.env := rfl
@[simp] theorem setTflagIf_tick (b : Bool) (t : Trap) : (s.setTflagIf b t).tick = s.tick := rfl
@[simp] theorem setTflagIf_epoch (b : Bool) (t : Trap) : (s.setTflagIf b t).epoch = s.epoch := rfl

/-! ### loadW -/

@[simp] theorem loadW_pc (r : WReg) (v : Word) : (s.loadW r v).pc = s.pc := rfl
@[simp] theorem loadW_w (r : WReg) (v : Word) : (s.loadW r v).w = (s.setW r v).w := rfl
@[simp] theorem loadW_splim (r : WReg) (v : Word) : (s.loadW r v).splim = s.splim := rfl
@[simp] theorem loadW_splimWritten (r : WReg) (v : Word) : (s.loadW r v).splimWritten = s.splimWritten := rfl
@[simp] theorem loadW_sr (r : WReg) (v : Word) : (s.loadW r v).sr = s.sr := rfl
@[simp] theorem loadW_corcon (r : WReg) (v : Word) : (s.loadW r v).corcon = s.corcon := rfl
@[simp] theorem loadW_accA (r : WReg) (v : Word) : (s.loadW r v).accA = s.accA := rfl
@[simp] theorem loadW_accB (r : WReg) (v : Word) : (s.loadW r v).accB = s.accB := rfl
@[simp] theorem loadW_disicnt (r : WReg) (v : Word) : (s.loadW r v).disicnt = s.disicnt := rfl
@[simp] theorem loadW_disicntUnspecified (r : WReg) (v : Word) :
    (s.loadW r v).disicntUnspecified = s.disicntUnspecified :=
  rfl
@[simp] theorem loadW_intcon1 (r : WReg) (v : Word) :
    (s.loadW r v).intcon1 = if r == 15#4 && (s.setW r v).sp.ult 0x0800#16 && Config.freeLowLoad s.tick then setBit s.intcon1 2 true else s.intcon1 :=
  rfl
@[simp] theorem loadW_intcon2 (r : WReg) (v : Word) : (s.loadW r v).intcon2 = s.intcon2 := rfl
@[simp] theorem loadW_inttreg (r : WReg) (v : Word) : (s.loadW r v).inttreg = s.inttreg := rfl
@[simp] theorem loadW_ifs (r : WReg) (v : Word) : (s.loadW r v).ifs = s.ifs := rfl
@[simp] theorem loadW_iec (r : WReg) (v : Word) : (s.loadW r v).iec = s.iec := rfl
@[simp] theorem loadW_ipc (r : WReg) (v : Word) : (s.loadW r v).ipc = s.ipc := rfl
@[simp] theorem loadW_trapr (r : WReg) (v : Word) : (s.loadW r v).trapr = s.trapr := rfl
@[simp] theorem loadW_cf (r : WReg) (v : Word) : (s.loadW r v).cf = s.cf := rfl
@[simp] theorem loadW_mode (r : WReg) (v : Word) : (s.loadW r v).mode = s.mode := rfl
@[simp] theorem loadW_pins (r : WReg) (v : Word) : (s.loadW r v).pins = s.pins := rfl
@[simp] theorem loadW_skid (r : WReg) (v : Word) : (s.loadW r v).skid = s.skid := rfl
@[simp] theorem loadW_tempPc (r : WReg) (v : Word) : (s.loadW r v).tempPc = s.tempPc := rfl
@[simp] theorem loadW_tempSrl (r : WReg) (v : Word) : (s.loadW r v).tempSrl = s.tempSrl := rfl
@[simp] theorem loadW_mem (r : WReg) (v : Word) : (s.loadW r v).mem = s.mem := rfl
@[simp] theorem loadW_prog (r : WReg) (v : Word) : (s.loadW r v).prog = s.prog := rfl
@[simp] theorem loadW_stalePrio (r : WReg) (v : Word) : (s.loadW r v).stalePrio = s.stalePrio := rfl
@[simp] theorem loadW_device (r : WReg) (v : Word) : (s.loadW r v).device = s.device := rfl
@[simp] theorem loadW_env (r : WReg) (v : Word) : (s.loadW r v).env = s.env := rfl
@[simp] theorem loadW_tick (r : WReg) (v : Word) : (s.loadW r v).tick = s.tick := rfl
@[simp] theorem loadW_epoch (r : WReg) (v : Word) : (s.loadW r v).epoch = s.epoch := rfl

/-! ### countDown -/

@[simp] theorem countDown_pc (c : Nat) : (s.countDown c).pc = s.pc := rfl
@[simp] theorem countDown_w (c : Nat) : (s.countDown c).w = s.w := rfl
@[simp] theorem countDown_splim (c : Nat) : (s.countDown c).splim = s.splim := rfl
@[simp] theorem countDown_splimWritten (c : Nat) : (s.countDown c).splimWritten = s.splimWritten := rfl
@[simp] theorem countDown_sr (c : Nat) : (s.countDown c).sr = s.sr := rfl
@[simp] theorem countDown_corcon (c : Nat) : (s.countDown c).corcon = s.corcon := rfl
@[simp] theorem countDown_accA (c : Nat) : (s.countDown c).accA = s.accA := rfl
@[simp] theorem countDown_accB (c : Nat) : (s.countDown c).accB = s.accB := rfl
@[simp] theorem countDown_disicnt (c : Nat) : (s.countDown c).disicnt = BitVec.ofNat 14 (s.disicnt.toNat - c) := rfl
@[simp] theorem countDown_disicntUnspecified (c : Nat) :
    (s.countDown c).disicntUnspecified = s.disicntUnspecified :=
  rfl
@[simp] theorem countDown_intcon1 (c : Nat) : (s.countDown c).intcon1 = s.intcon1 := rfl
@[simp] theorem countDown_intcon2 (c : Nat) :
    (s.countDown c).intcon2 = if s.disicnt != 0#14 && decide (s.disicnt.toNat ≤ c) then setBit s.intcon2 14 false else s.intcon2 :=
  rfl
@[simp] theorem countDown_inttreg (c : Nat) : (s.countDown c).inttreg = s.inttreg := rfl
@[simp] theorem countDown_ifs (c : Nat) : (s.countDown c).ifs = s.ifs := rfl
@[simp] theorem countDown_iec (c : Nat) : (s.countDown c).iec = s.iec := rfl
@[simp] theorem countDown_ipc (c : Nat) : (s.countDown c).ipc = s.ipc := rfl
@[simp] theorem countDown_trapr (c : Nat) : (s.countDown c).trapr = s.trapr := rfl
@[simp] theorem countDown_cf (c : Nat) : (s.countDown c).cf = s.cf := rfl
@[simp] theorem countDown_mode (c : Nat) : (s.countDown c).mode = s.mode := rfl
@[simp] theorem countDown_pins (c : Nat) : (s.countDown c).pins = s.pins := rfl
@[simp] theorem countDown_skid (c : Nat) : (s.countDown c).skid = s.skid := rfl
@[simp] theorem countDown_tempPc (c : Nat) : (s.countDown c).tempPc = s.tempPc := rfl
@[simp] theorem countDown_tempSrl (c : Nat) : (s.countDown c).tempSrl = s.tempSrl := rfl
@[simp] theorem countDown_mem (c : Nat) : (s.countDown c).mem = s.mem := rfl
@[simp] theorem countDown_prog (c : Nat) : (s.countDown c).prog = s.prog := rfl
@[simp] theorem countDown_stalePrio (c : Nat) : (s.countDown c).stalePrio = s.stalePrio := rfl
@[simp] theorem countDown_device (c : Nat) : (s.countDown c).device = s.device := rfl
@[simp] theorem countDown_env (c : Nat) : (s.countDown c).env = s.env := rfl
@[simp] theorem countDown_tick (c : Nat) : (s.countDown c).tick = s.tick := rfl
@[simp] theorem countDown_epoch (c : Nat) : (s.countDown c).epoch = s.epoch := rfl

end

end Sys2Proof.Machine
end

