-- ==== Sys2Proof/Laws/Operands.lean ====
section
/-! SUPPORT. What the operations on registers and data memory can do: one lemma for each that says once which fields they
leave alone and what they write. -/

namespace Sys2Proof.Machine

theorem vget_set_same {α : Type} {n : Nat} (v : Vector α n) (i : Nat) (x : α) (h : i < n) (j : Fin n) (e : j.val = i) :
    (v.set i x h).get j = x := by
  subst e
  simp [Vector.get_eq_getElem]

theorem vget_set_other {α : Type} {n : Nat} (v : Vector α n) (i : Nat) (x : α) (h : i < n) (j : Fin n)
    (e : j.val ≠ i) : (v.set i x h).get j = v.get j := by
  simp [Vector.get_eq_getElem, Ne.symm e]

/-- A status bit that no check failed for stays. -/
@[simp] theorem setTflagIf_false (t : Trap) (s : State) : s.setTflagIf false t = s := rfl

/-- A status bit that a check failed for is set. -/
@[simp] theorem setTflagIf_true (t : Trap) (s : State) : s.setTflagIf true t = s.setTflag t := rfl

/-- What no access through the data space touches. -/
structure DataFrame (s t : State) : Prop where
  pc : t.pc = s.pc
  accA : t.accA = s.accA
  accB : t.accB = s.accB
  inttreg : t.inttreg = s.inttreg
  mode : t.mode = s.mode
  pins : t.pins = s.pins
  skid : t.skid = s.skid
  tempPc : t.tempPc = s.tempPc
  tempSrl : t.tempSrl = s.tempSrl
  prog : t.prog = s.prog
  device : t.device = s.device
  env : t.env = s.env
  tick : t.tick = s.tick
  epoch : t.epoch = s.epoch

theorem DataFrame.refl (s : State) : DataFrame s s := by constructor <;> rfl

theorem DataFrame.trans {s t u : State} (h : DataFrame s t) (g : DataFrame t u) : DataFrame s u := by
  constructor
  all_goals first
    | exact g.pc.trans h.pc | exact g.accA.trans h.accA | exact g.accB.trans h.accB
    | exact g.inttreg.trans h.inttreg | exact g.mode.trans h.mode | exact g.pins.trans h.pins
    | exact g.skid.trans h.skid | exact g.tempPc.trans h.tempPc | exact g.tempSrl.trans h.tempSrl
    | exact g.prog.trans h.prog | exact g.device.trans h.device | exact g.env.trans h.env
    | exact g.tick.trans h.tick | exact g.epoch.trans h.epoch

/-! ### Registers -/

/-- A software write by access code, bit by bit. -/
theorem getLsbD_accessWrite (old v rw rc be : Word) (i : Nat) :
    (accessWrite old v rw rc be).getLsbD i =
      if be.getLsbD i then
        (if rw.getLsbD i then v.getLsbD i else old.getLsbD i) && (v.getLsbD i || !rc.getLsbD i)
      else old.getLsbD i := by
  unfold accessWrite
  by_cases h : i < 16
  · rw [BitVec.getLsbD_and, getLsbD_replaceBits]
    simp only [BitVec.getLsbD_and, BitVec.getLsbD_not, h, decide_true, Bool.true_and]
    cases be.getLsbD i <;> cases rc.getLsbD i <;> cases rw.getLsbD i <;> cases v.getLsbD i <;> cases old.getLsbD i <;> rfl
  · simp [BitVec.getLsbD_of_ge _ i (Nat.le_of_not_lt h)]

/-- Setting the flag of a source sets that bit, if the device has the source, and no other. -/
theorem getLsbD_withFlag (d : Device) (i : Irq) (f : Vector Word 5) (k : Fin 5) (n : Nat) :
    ((withFlag d i f).get k).getLsbD n
      = ((f.get k).getLsbD n || (hasSource d i && decide (k = i.reg) && decide (n = i.bit))) := by
  unfold withFlag
  cases hasSource d i
  · simp
  · simp only [if_true, Bool.true_and]
    by_cases hk : k = i.reg
    · subst hk
      rw [vget_set_same _ _ _ _ _ rfl, getLsbD_setBit _ _ _ _ (by show i.val % 16 < 16; omega)]
      by_cases hn : n = i.bit <;> simp [hn]
    · rw [vget_set_other _ _ _ _ _ (by intro e; exact hk (Fin.ext e))]
      simp [hk]

/-- A write of a register touches neither memory nor the fields of the frame. -/
theorem writeSfr_frame (r : Sfr) (v be : Word) (s : State) :
    DataFrame s (s.writeSfr r v be) ∧ (s.writeSfr r v be).mem = s.mem := by
  cases r <;> exact ⟨by constructor <;> rfl, rfl⟩

@[simp] theorem writeSfr_device (r : Sfr) (v be : Word) (s : State) : (s.writeSfr r v be).device = s.device :=
  (writeSfr_frame r v be s).1.device

/-- A load of a register writes it, W15 even, and STKERR at most for W15 below 0x0800. -/
theorem loadW_eq (r : WReg) (v : Word) (s : State) :
    s.loadW r v = s.setW r v
      ∨ (r = 15#4 ∧ (v &&& 0xFFFE#16).toNat < 0x0800
          ∧ s.loadW r v = { s.setW r v with intcon1 := setBit s.intcon1 2 true }) := by
  have e : s.loadW r v = (s.setW r v).setTflagIf
      (r == 15#4 && (s.setW r v).sp.ult 0x0800#16 && Config.freeLowLoad s.tick) .stackError := rfl
  rw [e]
  cases hc : (r == 15#4 && (s.setW r v).sp.ult 0x0800#16 && Config.freeLowLoad s.tick)
  · left; exact setTflagIf_false _ _
  · right
    have h := hc
    simp only [Bool.and_eq_true, beq_iff_eq] at h
    obtain ⟨⟨hr, hlt⟩, -⟩ := h
    refine ⟨hr, ?_, rfl⟩
    subst hr
    rw [show (s.setW 15#4 v).sp = v &&& 0xFFFE#16 from vget_set_same s.w 15 _ (by decide) 15 rfl] at hlt
    simpa [BitVec.ult] using hlt

theorem loadW_frame (r : WReg) (v : Word) (s : State) : DataFrame s (s.loadW r v) := by constructor <;> rfl

/-! ### The program counter -/

/-- An address in the width of the pc, as a number. -/
theorem toNat_wrapPc (d : Device) (a : PAddr) : (wrapPc d a).toNat = a.toNat % 2 ^ d.pcw := by
  unfold wrapPc
  rw [BitVec.toNat_ofNat]
  exact Nat.mod_eq_of_lt (Nat.lt_of_le_of_lt (Nat.mod_le _ _) a.isLt)

/-- Bit by bit: the bits from PCW on are 0. -/
theorem getLsbD_wrapPc (d : Device) (a : PAddr) (i : Nat) :
    (wrapPc d a).getLsbD i = (decide (i < d.pcw) && a.getLsbD i) := by
  rw [BitVec.getLsbD, toNat_wrapPc, Nat.testBit_mod_two_pow]
  rfl

/-- An address that fits the pc stays. -/
theorem wrapPc_of_lt {d : Device} {a : PAddr} (h : a.toNat < 2 ^ d.pcw) : wrapPc d a = a := by
  apply BitVec.eq_of_toNat_eq
  rw [toNat_wrapPc, Nat.mod_eq_of_lt h]

/-- The pc after a write fits PCW. -/
theorem toNat_wrapPc_lt (d : Device) (a : PAddr) : (wrapPc d a).toNat < 2 ^ d.pcw := by
  rw [toNat_wrapPc]
  exact Nat.mod_lt _ (Nat.two_pow_pos _)

/-! ### Data memory -/

/-- A word read raises the address error trap or changes nothing. -/
theorem readWord_eq (a : DAddr) (s : State) :
    (s.wordBad a = false ∧ s.readWord a = (s.dataWord a, s))
      ∨ (s.wordBad a = true ∧ s.readWord a = (Config.freeRead s.tick a, s.setTflag .addressError)) := by
  unfold State.readWord
  cases s.wordBad a <;> simp

/-- A word write raises the address error trap, or is inhibited, or writes a register or memory. -/
theorem writeWord_eq (inhibit : Bool) (a : DAddr) (v : Word) (s : State) :
    (s.wordBad a = true ∧ s.writeWord inhibit a v = s.setTflag .addressError)
      ∨ (s.wordBad a = false ∧ inhibit = true ∧ s.writeWord inhibit a v = s)
      ∨ (s.wordBad a = false ∧ inhibit = false ∧ s.writeWord inhibit a v = s.putWord a v) := by
  unfold State.writeWord
  cases s.wordBad a <;> cases inhibit <;> simp

/-- A word write at a good address reaches the register there, or memory. -/
theorem putWord_eq (a : DAddr) (v : Word) (s : State) :
    (∃ r, sfrAt s.device a = some r ∧ s.putWord a v = s.writeSfr r v 0xFFFF#16)
      ∨ (sfrAt s.device a = none ∧ s.putWord a v = s.setRamWord a v) := by
  unfold State.putWord
  cases h : sfrAt s.device a <;> simp

/-- A byte write at a good address reaches half of the register there, or memory. -/
theorem putByte_eq (a : DAddr) (v : Byte) (s : State) :
    (∃ r, sfrAt s.device (wordAddr a) = some r ∧ s.putByte a v = s.writeSfr r (v ++ v) (byteLanes a))
      ∨ (sfrAt s.device (wordAddr a) = none ∧ s.putByte a v = s.setRamByte a v) := by
  unfold State.putByte
  cases h : sfrAt s.device (wordAddr a) <;> simp

theorem setTflag_frame (t : Trap) (s : State) : DataFrame s (s.setTflag t) := by constructor <;> rfl

theorem setTflagIf_frame (b : Bool) (t : Trap) (s : State) : DataFrame s (s.setTflagIf b t) := by constructor <;> rfl

theorem setSp_frame (v : Word) (s : State) : DataFrame s (s.setSp v) := by constructor <;> rfl

theorem putWord_frame (a : DAddr) (v : Word) (s : State) : DataFrame s (s.putWord a v) := by
  rcases putWord_eq a v s with ⟨r, -, e⟩ | ⟨-, e⟩ <;> rw [e]
  · exact (writeSfr_frame r v _ s).1
  · constructor <;> rfl

theorem putByte_frame (a : DAddr) (v : Byte) (s : State) : DataFrame s (s.putByte a v) := by
  rcases putByte_eq a v s with ⟨r, -, e⟩ | ⟨-, e⟩ <;> rw [e]
  · exact (writeSfr_frame r _ _ s).1
  · constructor <;> rfl

theorem readWord_frame (a : DAddr) (s : State) : DataFrame s (s.readWord a).2 := by
  rcases readWord_eq a s with ⟨-, e⟩ | ⟨-, e⟩ <;> rw [e]
  · exact DataFrame.refl s
  · exact setTflag_frame _ s

theorem writeWord_frame (inhibit : Bool) (a : DAddr) (v : Word) (s : State) : DataFrame s (s.writeWord inhibit a v) := by
  rcases writeWord_eq inhibit a v s with ⟨-, e⟩ | ⟨-, -, e⟩ | ⟨-, -, e⟩ <;> rw [e]
  · exact setTflag_frame _ s
  · exact DataFrame.refl s
  · exact putWord_frame a v s

theorem writeByte_frame (a : DAddr) (v : Byte) (s : State) : DataFrame s (s.writeByte a v) := by
  unfold State.writeByte
  cases s.byteBad a
  · exact putByte_frame a v s
  · exact setTflag_frame _ s

/-! ### The stack -/

theorem pushWord_frame (inhibit : Bool) (v : Word) (s : State) : DataFrame s (s.pushWord inhibit v) :=
  ((writeWord_frame inhibit s.sp v s).trans (setTflagIf_frame _ _ _)).trans (setSp_frame _ _)

theorem popWord_frame (s : State) : DataFrame s s.popWord.2 :=
  ((setSp_frame _ s).trans (readWord_frame _ _)).trans (setTflagIf_frame _ _ _)

/-- W15 after a write of it is even. -/
theorem sp_setSp (v : Word) (s : State) : (s.setSp v).sp = v &&& 0xFFFE#16 :=
  vget_set_same s.w 15 _ (by decide) 15 rfl

/-- W15 is the last working register. -/
theorem sp_of_w {s t : State} (h : t.w = s.w) : t.sp = s.sp := by
  unfold State.sp State.getW; rw [h]

/-- A pop moves W15 down by 2, its bit 0 dropped. -/
theorem sp_popWord (s : State) : s.popWord.2.sp = (s.sp - 2#16) &&& 0xFFFE#16 := by
  have e : s.popWord.2.w = (s.setSp (s.sp - 2#16)).w := by
    show (((s.setSp (s.sp - 2#16)).readWord (s.sp - 2#16)).2.setTflagIf _ _).w = _
    rw [setTflagIf_w]
    rcases readWord_eq (s.sp - 2#16) (s.setSp (s.sp - 2#16)) with ⟨-, e⟩ | ⟨-, e⟩ <;> rw [e]
    rfl
  rw [sp_of_w e, sp_setSp]

/-- A pop changes nothing but W15 and the two status bits STKERR and ADDRERR. -/
theorem popWord_eq (s : State) :
    s.popWord.2 = { s with w := s.popWord.2.w, intcon1 := s.popWord.2.intcon1 } := by
  show ((s.setSp (s.sp - 2#16)).readWord (s.sp - 2#16)).2.setTflagIf _ _ = _
  rcases readWord_eq (s.sp - 2#16) (s.setSp (s.sp - 2#16)) with ⟨-, e⟩ | ⟨-, e⟩ <;>
    simp only [State.popWord, e] <;> rfl

end Sys2Proof.Machine
end

