-- ==== Sys2Proof/Laws/Assignment.lean ====
section
/-! SUPPORT. What an assignment to a register field can do. -/

namespace Sys2Proof.Machine

/-- The mask of a field, bit by bit. -/
theorem getLsbD_fieldMask (f : RegField) (n : Nat) (hn : n < 16) :
    f.mask.getLsbD n = (decide (f.low ≤ n) && decide (n < f.low + f.width)) := by
  unfold RegField.mask
  rw [BitVec.getLsbD_shiftLeft, BitVec.getLsbD_ofNat, Nat.testBit_two_pow_sub_one]
  by_cases h : n < f.low
  · simp [h, show ¬ f.low ≤ n by omega]
  · have h16 : n - f.low < 16 := by omega
    have hle : f.low ≤ n := by omega
    by_cases hw : n < f.low + f.width
    · simp [hn, h, hle, hw, h16, show n - f.low < f.width by omega]
    · simp [hn, h, hle, hw, show ¬ n - f.low < f.width by omega]

/-- A word with a field replaced: the field's bits are the value's, every other bit stays. -/
theorem getLsbD_fieldReplace (f : RegField) (old v : Word) (n : Nat) (hn : n < 16) :
    (f.replace old v).getLsbD n
      = if f.low ≤ n ∧ n < f.low + f.width then v.getLsbD (n - f.low) else old.getLsbD n := by
  unfold RegField.replace
  rw [getLsbD_replaceBits, getLsbD_fieldMask f n hn, BitVec.getLsbD_shiftLeft]
  by_cases h : f.low ≤ n ∧ n < f.low + f.width
  · simp [h, hn, show ¬ n < f.low by omega]
  · simp only [h, if_false, ← Bool.decide_and, decide_false, Bool.false_eq_true]

/-- An assignment is one write of its register: it touches neither memory nor the fields of the frame. -/
theorem assign_frame (a : Assignment) (s : State) : DataFrame s (s.assign a) ∧ (s.assign a).mem = s.mem :=
  writeSfr_frame _ _ _ s

end Sys2Proof.Machine
end

