-- ==== Sys2Proof/Laws/Ops.lean ====
section
/-! SUPPORT. What the shared operations can do: the countdown, raising a trap, the end of an instruction, the device Reset,
the exception entry, events and the step. -/

namespace Sys2Proof.Machine

/-! ### The countdown -/

/-- The drawn cycle count is a member of the set, taken as at least 1; an empty set counts as one cycle. -/
theorem drawCycles_mem (k : StepKind) (s : State) :
    (cycleSet s.device k = [] ∧ s.drawCycles k = 1) ∨ ∃ n ∈ cycleSet s.device k, s.drawCycles k = max 1 n := by
  unfold State.drawCycles
  generalize cycleSet s.device k = set
  match set with
  | [] => exact .inl ⟨rfl, rfl⟩
  | [c] => exact .inr ⟨c, by simp, rfl⟩
  | a :: b :: cs =>
    right
    have hlt : Config.freeCycles s.tick % (a :: b :: cs).length < (a :: b :: cs).length :=
      Nat.mod_lt _ (by simp)
    refine ⟨(a :: b :: cs)[Config.freeCycles s.tick % (a :: b :: cs).length], List.getElem_mem hlt, ?_⟩
    show max 1 ((a :: b :: cs).getD _ 1) = _
    rw [List.getD_eq_getElem _ _ hlt]

/-- An instruction ends with its countdown, or with none if it wrote DISICNT. -/
theorem finish_eq (k : StepKind) (wrote : Bool) (s : State) :
    (wrote = true ∧ s.finish k wrote = s) ∨ (wrote = false ∧ s.finish k wrote = s.countDown (s.drawCycles k)) := by
  cases wrote
  · exact .inr ⟨rfl, rfl⟩
  · exact .inl ⟨rfl, rfl⟩

theorem finish_shape (k : StepKind) (wrote : Bool) (s : State) :
    s.finish k wrote = { s with disicnt := (s.finish k wrote).disicnt, intcon2 := (s.finish k wrote).intcon2 } := by
  rcases finish_eq k wrote s with ⟨-, e⟩ | ⟨-, e⟩
  · rw [e]
  · rw [e]; rfl

/-- INTCON2.DISI after a countdown. -/
theorem disiActive_countDown (c : Nat) (s : State) :
    (s.countDown c).disiActive
      = if s.disicnt != 0#14 && decide (s.disicnt.toNat ≤ c) then false else s.disiActive := by
  show (State.countDown c s).intcon2.getLsbD 14 = _
  rw [countDown_intcon2]
  split
  · rw [getLsbD_setBit _ _ _ _ (by decide)]; simp
  · rfl

/-! ### Traps -/

/-- Raising a hard trap resets the device, or is the fault at the trap's own level, or goes on. -/
theorem raiseHard_eq (t : Trap) (s after : State) :
    (hardCheck t s = .conflict ∧ raiseHard t s after = .next (deviceReset .trapConflict s))
      ∨ (hardCheck t s = .sameLevel ∧ raiseHard t s after = .fault .sameLevelHardTrap)
      ∨ (hardCheck t s = .clear ∧ raiseHard t s after = .next after) := by
  unfold raiseHard
  cases hardCheck t s <;> simp

/-- A step that settles answers its own effects or a conflict's Reset. -/
theorem settle_next (bad : Bool) (s after t : State) (h : settle bad s after = .next t) :
    t = after ∨ t = deviceReset .trapConflict s := by
  unfold settle at h
  cases bad
  · left; simpa using h.symm
  · rcases raiseHard_eq .addressError s after with ⟨-, e⟩ | ⟨-, e⟩ | ⟨-, e⟩ <;> simp [e] at h
    · exact .inr h.symm
    · exact .inl h.symm

@[simp] theorem settle_false (s after : State) : settle false s after = .next after := rfl

@[simp] theorem settle_true (s after : State) : settle true s after = raiseHard .addressError s after := rfl

/-! ### Reset -/

/-- What a device Reset leaves alone. -/
theorem deviceReset_kept (k : ResetKind) (s : State) :
    (deviceReset k s).prog = s.prog ∧ (deviceReset k s).device = s.device ∧ (deviceReset k s).pins = s.pins
      ∧ (deviceReset k s).env = s.env ∧ (deviceReset k s).tick = s.tick ∧ (deviceReset k s).epoch = s.epoch + 1 :=
  ⟨rfl, rfl, rfl, rfl, rfl, rfl⟩

/-- W15 after a device Reset. -/
theorem sp_deviceReset (k : ResetKind) (s : State) : (deviceReset k s).sp = 0x0800#16 := by
  show (resetRegisters (s.epoch + 1)).get 15 = _
  unfold resetRegisters
  rw [Vector.get_eq_getElem, Vector.getElem_ofFn]
  rfl

/-! ### Taking an exception -/

theorem latchTemp_frame (s : State) :
    s.latchTemp = { s with tempPc := s.pc, tempSrl := s.srl } := rfl

/-- Where the second push of an entry goes: 2 above the first, or, if the first is written into W15 itself, 2 above what
that write leaves there. -/
theorem secondPushAddr_eq (s : State) :
    s.secondPushAddr = if s.wordBad s.sp = false ∧ sfrAt s.device s.sp = some .w15
      then ((s.frameLow &&& 0xFFFE#16) + 2#16) &&& 0xFFFE#16 else (s.sp + 2#16) &&& 0xFFFE#16 := by
  have e : s.secondPushAddr
      = ((s.latchTemp.writeWord (s.wordBad s.sp) s.sp s.frameLow).sp + 2#16) &&& 0xFFFE#16 := sp_setSp _ _
  rw [e]
  rcases writeWord_eq (s.wordBad s.sp) s.sp s.frameLow s.latchTemp with ⟨hb, e⟩ | ⟨hb, hi, -⟩ | ⟨hb, -, e⟩
  · rw [e, if_neg (fun h => by simp [show s.wordBad s.sp = true from hb] at h)]
    rfl
  · exact absurd hi (by rw [show s.wordBad s.sp = false from hb]; decide)
  · rw [e]
    rcases putWord_eq s.sp s.frameLow s.latchTemp with ⟨r, hr, e⟩ | ⟨hr, e⟩ <;> rw [e]
    · have hr : sfrAt s.device s.sp = some r := hr
      rw [hr]
      cases r
      case w15 =>
        rw [if_pos ⟨hb, rfl⟩]
        show (State.sp (State.loadW 15#4 (replaceBits s.sp s.frameLow 0xFFFF#16) s.latchTemp) + 2#16) &&& _ = _
        rw [show State.sp (State.loadW 15#4 (replaceBits s.sp s.frameLow 0xFFFF#16) s.latchTemp)
            = replaceBits s.sp s.frameLow 0xFFFF#16 &&& 0xFFFE#16 from vget_set_same s.w 15 _ (by decide) 15 rfl,
          replaceBits_allOnes]
      all_goals rw [if_neg (by simp)]; rfl
    · have hr : sfrAt s.device s.sp = none := hr
      rw [hr, if_neg (by simp)]; rfl

/-- An entry's state but for its pushes: the priority, INTTREG, the pc and the mode. -/
theorem afterEntry_eq (r : Request) (s : State) :
    ∃ c, s.afterEntry r = State.countDown c { s.pushFrame.enterPriority r with
      inttreg := inttregWord r.level (r.vecnum s.tick)
      pc := wrapPc (s.pushFrame.enterPriority r).device (vectorTarget ({ s.pushFrame.enterPriority r with
        inttreg := inttregWord r.level (r.vecnum s.tick) }.progWord (State.vectorAddr
          { s.pushFrame.enterPriority r with inttreg := inttregWord r.level (r.vecnum s.tick) } r.vec)))
      mode := .run
      skid := 0 } :=
  ⟨_, rfl⟩

/-- An entry answers its state after the pushes, or what an address error on them makes of it. -/
theorem exceptionEntry_next (r : Request) (s t : State) (h : exceptionEntry r s = .next t) :
    t = s.afterEntry r ∨ t = deviceReset .trapConflict s :=
  settle_next _ _ _ _ h

/-! ### Events -/

/-- The events of a slot are applied one after the other. -/
theorem applyEvents_cons (e : Event) (es : List Event) (s u : State) :
    applyEvents (e :: es) s = .next u ↔ ∃ t, applyEvent e s = .next t ∧ applyEvents es t = .next u := by
  show (match applyEvent e s with
    | .next t => applyEvents es t
    | .fault f => .fault f
    | .refused r => .refused r) = Host.Outcome.next u ↔ _
  cases applyEvent e s <;> simp

/-- What every event keeps, every slot keeps. -/
theorem applyEvents_induction (P : State → Prop) (hstep : ∀ e s t, P s → applyEvent e s = .next t → P t) :
    ∀ es s t, P s → applyEvents es s = .next t → P t
  | [], s, t, hs, h => by
    have e : s = t := by simpa [applyEvents] using h
    exact e ▸ hs
  | e :: es, s, t, hs, h => by
    obtain ⟨u, hu, h⟩ := (applyEvents_cons e es s t).mp h
    exact applyEvents_induction P hstep es u t (hstep e s u hs hu) h

/-! ### The step -/

/-- A next state of a collision's result is the next state without it, DMACERR set or not. -/
theorem withCollision_next (b : Bool) (o : Outcome) (t : State) (h : withCollision b o = .next t) :
    ∃ u, o = .next u ∧ (t = u ∨ t = u.setTflag .dmacError) := by
  unfold withCollision at h
  cases b
  · exact ⟨t, by simpa using h, .inl rfl⟩
  · cases o <;> simp [mapNext] at h
    exact ⟨_, rfl, .inr h.symm⟩

/-- Every way a step can answer a next state: after the slot's events `u`, asleep it wakes or stays; awake it executes an
instruction, or finds program memory unimplemented, or enters an exception. -/
theorem step_cases (s t : State) (h : fullStep s = .next t) :
    ∃ u, applyEvents s.slot.events s.tickOver = .next u ∧
      ((u.mode ≠ .run ∧ (t = u ∨ t = { u with mode := .run }))
      ∨ (u.mode = .run ∧ ∃ k, (k = 0 ∨ k ≤ u.device.skidMax) ∧
          ((∃ i rest v, decode { u with stalePrio := [], skid := k }.fetchWords = .ok i rest
              ∧ exec i { u with stalePrio := [], skid := k } = .next v ∧ (t = v ∨ t = v.setTflag .dmacError))
          ∨ settle true { u with stalePrio := [], skid := k }
              (((State.setTflag .addressError { u with stalePrio := [], skid := k }).losePc).finish .fetchError false)
              = .next t))
      ∨ (u.mode = .run ∧ ∃ r v, u.winner = some r ∧ exceptionEntry r { u with stalePrio := [] } = .next v
          ∧ (t = v ∨ t = v.setTflag .dmacError))) := by
  have hE : ∀ (w : State), executeInstruction s.slot.dmaCollision w = .next t →
      ((∃ i rest v, decode w.fetchWords = .ok i rest ∧ exec i w = .next v ∧ (t = v ∨ t = v.setTflag .dmacError))
        ∨ settle true w (((State.setTflag .addressError w).losePc).finish .fetchError false) = .next t) := by
    intro w hw
    unfold executeInstruction at hw
    split at hw
    · exact .inr hw
    · left
      cases hd : decode w.fetchWords with
      | ok i rest =>
        simp only [hd] at hw
        obtain ⟨v, hv, ht⟩ := withCollision_next _ _ _ hw
        exact ⟨i, rest, v, rfl, hv, ht⟩
      | reject why => rw [hd] at hw; cases why <;> simp [refuseWords] at hw
  unfold fullStep at h
  cases ha : applyEvents s.slot.events s.tickOver with
  | fault f => rw [ha] at h; simp at h
  | refused r => rw [ha] at h; simp at h
  | next u =>
    simp only [ha] at h
    refine ⟨u, rfl, ?_⟩
    have hP : u.mode ≠ .run → powerStep u = .next t →
        (t = u ∨ t = { u with mode := .run }) := by
      intro _ hp
      unfold powerStep at hp
      split at hp
      · exact .inr (by simpa using hp.symm)
      · split at hp
        · simp at hp
        · exact .inl (by simpa using hp.symm)
    by_cases hm : u.mode = .run
    · right
      have hr : runStep s.slot.dmaCollision u = .next t := by simpa [cpuStep, hm] using h
      unfold runStep at hr
      cases hw : u.winner with
      | none =>
        simp only [hw] at hr
        exact .inl ⟨hm, 0, .inl rfl, hE _ hr⟩
      | some r =>
        simp only [hw] at hr
        split at hr
        · rename_i hl
          simp only [State.letsThrough, Bool.and_eq_true, decide_eq_true_eq] at hl
          exact .inl ⟨hm, u.skid + 1, .inr (by omega), hE _ hr⟩
        · obtain ⟨v, hv, ht⟩ := withCollision_next _ _ _ hr
          exact .inr ⟨hm, r, v, rfl, hv, ht⟩
    · left
      have hp : powerStep u = .next t := by
        unfold cpuStep at h
        split at h
        · exact absurd ‹_› hm
        · exact h
        · exact h
      exact ⟨hm, hP hm hp⟩

end Sys2Proof.Machine
end

