-- ==== Sys2Proof/Laws/PerInstr.lean ====
section
/-! SUPPORT. The per-instruction family EncodeLength: the encoder writes as many program words as the instruction has
(30_encoding.md R132, R133). -/

namespace Sys2Proof.Laws.EncodeLength

/-- The encoding of the instruction has the length of the instruction. -/
def Statement (i : Instr) : Prop := (encode i).length = i.words

theorem nop (ignored : BitVec 16) : Statement (.nop ignored) := rfl
theorem goto (target : PAddr) : Statement (.goto target) := rfl
theorem ret : Statement .ret := rfl
theorem retfie : Statement .retfie := rfl
theorem movLit (lit : Word) (d : WReg) : Statement (.movLit lit d) := rfl
theorem bra (offset : BitVec 16) : Statement (.bra offset) := rfl
theorem movToReg (f : DAddr) (d : WReg) : Statement (.movToReg f d) := rfl
theorem movToFile (ws : WReg) (f : DAddr) : Statement (.movToFile ws f) := rfl
theorem clr (byteOp toFile : Bool) (f : BitVec 13) : Statement (.clr byteOp toFile f) := rfl
theorem push (f : DAddr) : Statement (.push f) := rfl
theorem pop (f : DAddr) : Statement (.pop f) := rfl
theorem disi (lit : BitVec 14) : Statement (.disi lit) := rfl
theorem reset : Statement .reset := rfl
theorem pwrsav (lit : BitVec 1) : Statement (.pwrsav lit) := rfl

end Sys2Proof.Laws.EncodeLength
end

