-- ==== Sys2Proof/Tests/Slice0.lean ====
section
/-! SUPPORT. Tests on fixed values, taken from 30_encoding.md R141 and 95_test_vectors.md, and for every obligation with
hypotheses a witness that meets them. -/

set_option maxRecDepth 20000

namespace Sys2Proof.Tests

open Sys2Proof Sys2Proof.Machine Sys2Proof.Claims

/-! ### Small states -/

/-- The state after reset. -/
def base : State := State.reset

/-- The state answered, and a check of it. -/
def nextWith (o : Outcome) (p : State → Bool) : Bool :=
  match o with
  | .next t => p t
  | .fault _ => false
  | .refused _ => false

/-- The instruction a 24-bit word stands for, run in a state. -/
def runWord (w : PWord) (s : State) : Outcome :=
  match decode [w] with
  | .ok i _ => exec i s
  | .reject _ => .refused (.unlistedOpcode w)

/-- A state with a working register set. -/
def withW (r : WReg) (v : Word) (s : State) : State := s.setW r v

/-- A state with words of memory set. -/
def withMem (l : List (DAddr × Word)) (s : State) : State := l.foldl (fun s p => s.setRamWord p.1 p.2) s

/-- A state with words of program memory set. -/
def withProg (l : List (PAddr × PWord)) (s : State) : State := l.foldl (fun s p => s.setProgWord p.1 p.2) s

/-- A state with the flag and the enable of a source set and its priority given. -/
def ready (i : Irq) (p : BitVec 3) (s : State) : State :=
  { s with
    ifs := s.ifs.set i.reg.val (setBit (s.ifs.get i.reg) i.bit true) i.reg.isLt
    iec := s.iec.set i.reg.val (setBit (s.iec.get i.reg) i.bit true) i.reg.isLt
    ipc := s.ipc.set i.ipcReg.val
      (replaceBits (s.ipc.get i.ipcReg) (p.zeroExtend 16 <<< i.ipcLow) (7#16 <<< i.ipcLow)) i.ipcReg.isLt }

/-- The CPU at a level of 8 or more. -/
def trapLevel (low : BitVec 3) (s : State) : State :=
  { s with corcon := 0x0028#16, sr := low.zeroExtend 16 <<< 5 }

/-- A device with memory around 0x0800 and at both ends of the data space. -/
def wideDevice : Device := { defaultDevice with dataRegions := [⟨0x07FE, 0x0FFF⟩, ⟨0xFFFC, 0xFFFF⟩] }

/-- The state after reset on that device. -/
def wide : State := { base with device := wideDevice }

/-- The state after reset on a device with a pc of 10 bits. -/
def narrow : State := { base with device := { defaultDevice with pcw := 10 } }

/-! ### Well-formedness: one ill-formed term for each check -/

theorem test_wf_goto_odd : (Instr.goto 0x000201#23).wf = false := by decide
theorem test_wf_movToReg_odd : (Instr.movToReg 0x0901#16 0#4).wf = false := by decide
theorem test_wf_movToFile_odd : (Instr.movToFile 0#4 0x0901#16).wf = false := by decide
theorem test_wf_push_odd : (Instr.push 0x0901#16).wf = false := by decide
theorem test_wf_pop_odd : (Instr.pop 0x0901#16).wf = false := by decide

/-! ### Decoding: words written out from the encodings of R134, with R141's where it has one -/

theorem test_decode_nop : decodeTableWord 24 0b000000000000000000000000 = some (.nop 0x0000#16) := by decide
theorem test_decode_goto :
    decodeTableWord 48 0b000000000000000000000001000001000010001101000100 = some (.goto 0x012344#23) := by decide
theorem test_decode_ret : decodeTableWord 24 0b000001100000000000000000 = some .ret := by decide
theorem test_decode_retfie : decodeTableWord 24 0b000001100100000000000000 = some .retfie := by decide
theorem test_decode_movLit :
    decodeTableWord 24 0b001000000000111000000001 = some (.movLit 0x00E0#16 1#4) := by decide
theorem test_decode_bra : decodeTableWord 24 0b001101111111111111111111 = some (.bra 0xFFFF#16) := by decide
theorem test_decode_movToReg :
    decodeTableWord 24 0b100000000000010000100001 = some (.movToReg 0x0084#16 1#4) := by decide
theorem test_decode_movToFile :
    decodeTableWord 24 0b100010000000010010100000 = some (.movToFile 0#4 0x0094#16) := by decide
theorem test_decode_clr :
    decodeTableWord 24 0b111011110010000010000100 = some (.clr false true 0x0084#13) := by decide
theorem test_decode_clr_byte :
    decodeTableWord 24 0b111011110110100100000001 = some (.clr true true 0x0901#13) := by decide
theorem test_decode_push : decodeTableWord 24 0b111110000000000001000010 = some (.push 0x0042#16) := by decide
theorem test_decode_pop : decodeTableWord 24 0b111110010000000001000010 = some (.pop 0x0042#16) := by decide
theorem test_decode_disi : decodeTableWord 24 0b111111000011111111111111 = some (.disi 0x3FFF#14) := by decide
theorem test_decode_reset : decodeTableWord 24 0b111111100000000000000000 = some .reset := by decide
theorem test_decode_pwrsav : decodeTableWord 24 0b111111100100000000000001 = some (.pwrsav 1#1) := by decide

/-- DAW is listed by no row of the opcode map. -/
theorem test_decode_unlisted : decode [0xFD4000#24] = .reject (.unlisted 0xFD4000#24) := by decide

/-! ### Instructions (95_test_vectors.md sections 2.1, 2.2, 2.5, 2.9, 2.10) -/

/-- K3, and K4 below. -/
theorem test_nop_counts_down : nextWith (runWord 0x000000#24 { base with disicnt := 3#14, intcon2 := 0x4000#16 })
    (fun t => t.disicnt == 2#14 && t.intcon2 == 0x4000#16 && t.pc == 2#23) = true := by decide
theorem test_nop_ends_period : nextWith (runWord 0x000000#24 { base with disicnt := 1#14, intcon2 := 0x4000#16 })
    (fun t => t.disicnt == 0#14 && t.intcon2 == 0x0000#16) = true := by decide
/-- I1. -/
theorem test_goto : nextWith (exec (.goto 0x000200#23) base) (fun t => t.pc == 0x000200#23) = true := by decide
/-- I3 and I4. -/
theorem test_bra_self : nextWith (runWord 0x37FFFF#24 { base with pc := 0x000204#23 })
    (fun t => t.pc == 0x000204#23) = true := by decide
theorem test_bra_wraps : braTarget 0x000200#23 0x8000#16 = 0x7F0202#23 := by decide
/-- I7: the high word of the frame has SRL and IPL3, which RETURN ignores. -/
theorem test_return : nextWith (exec .ret (withMem [(0x0802#16, 0xE080#16), (0x0800#16, 0x0345#16)]
    (withW 15#4 0x0804#16 base)))
    (fun t => t.pc == 0x000344#23 && t.sp == 0x0800#16 && t.sr == 0x0000#16 && t.corcon == 0x0020#16) = true := by decide
/-- F2 and F3. -/
theorem test_retfie : nextWith (exec .retfie (withMem [(0x0806#16, 0xA183#16), (0x0804#16, 0x4569#16)]
    (withW 15#4 0x0808#16 { base with sr := 0x00C0#16, corcon := 0x0028#16 })))
    (fun t => t.sp == 0x0804#16 && t.sr == 0x00A1#16 && t.corcon == 0x0028#16 && t.pc == 0x034568#23
      && t.cpuIpl == 13#4) = true := by decide
/-- F4 and F5. -/
theorem test_retfie_nstdis : nextWith (exec .retfie (withMem [(0x0802#16, 0x6000#16), (0x0800#16, 0x0300#16)]
    (withW 15#4 0x0804#16 { base with sr := 0x80E0#16, intcon1 := 0x8000#16 })))
    (fun t => t.sr == 0x8060#16 && t.pc == 0x000300#23) = true := by decide
/-- D5 with PCW = 10: pc + 2, a GOTO and a return address modulo 2^10. -/
theorem test_nop_wraps_pcw : nextWith (runWord 0x000000#24 { narrow with pc := 0x0003FE#23 })
    (fun t => t.pc == 0x000000#23) = true := by decide
theorem test_goto_pcw : nextWith (exec (.goto 0x000602#23) narrow) (fun t => t.pc == 0x000202#23) = true := by decide
theorem test_return_pcw : nextWith (exec .ret (withMem [(0x0802#16, 0x0001#16), (0x0800#16, 0x2346#16)]
    (withW 15#4 0x0804#16 narrow))) (fun t => t.pc == 0x000346#23) = true := by decide
/-- R24: bit 0 of W15 stays 0. -/
theorem test_movLit_w15 : nextWith (exec (.movLit 0x0901#16 15#4) base) (fun t => t.sp == 0x0900#16) = true := by decide
theorem test_movLit : nextWith (exec (.movLit 0xFFFF#16 14#4) base)
    (fun t => t.getW 14#4 == 0xFFFF#16 && t.sp == 0x0800#16) = true := by decide
/-- RA2 and K14: IPL is read-only under NSTDIS, INTCON2.DISI always. -/
theorem test_movToFile_sr : nextWith (runWord 0x880211#24 { base with sr := 0x00E0#16, intcon1 := 0x8000#16 })
    (fun t => t.sr == 0x00E0#16) = true := by decide
theorem test_movToFile_intcon2 : nextWith (runWord 0x880410#24 (withW 0#4 0x8001#16
    { base with disicnt := 9#14, intcon2 := 0x4000#16 }))
    (fun t => t.intcon2 == 0xC001#16 && t.disicnt == 8#14) = true := by decide
/-- I12, and a word of memory (20_memory.md R109). -/
theorem test_movToReg_sfr : nextWith (runWord 0x800702#24 { base with inttreg := 0x0507#16 })
    (fun t => t.getW 2#4 == 0x0507#16) = true := by decide
theorem test_movToReg_ram : nextWith (exec (.movToReg 0x0900#16 3#4) ((base.setRamByte 0x0900#16 0x34#8).setRamByte
    0x0901#16 0x12#8)) (fun t => t.getW 3#4 == 0x1234#16) = true := by decide
/-- I10: CLR.B of the odd byte; K8: CLR DISICNT. -/
theorem test_clr_byte : nextWith (runWord 0xEF6901#24 (withMem [(0x0900#16, 0x1234#16)] base))
    (fun t => t.ramWord 0x0900#16 == 0x0034#16 && t.intcon1 == 0x0000#16) = true := by decide
theorem test_clr_disicnt : nextWith (runWord 0xEF2052#24 { base with disicnt := 60#14, intcon2 := 0x4000#16 })
    (fun t => t.disicnt == 0#14 && t.intcon2 == 0x0000#16) = true := by decide
/-- S3: the check against SPLIM, at and above the limit. -/
theorem test_push_at_limit : nextWith (runWord 0xF80042#24 (withW 15#4 0x0810#16
    { base with splim := 0x0810#16, splimWritten := true, sr := 0x0041#16 }))
    (fun t => t.ramWord 0x0810#16 == 0x0041#16 && t.sp == 0x0812#16 && t.intcon1 == 0x0000#16) = true := by decide
theorem test_push_above_limit : nextWith (runWord 0xF80042#24 (withW 15#4 0x0812#16
    { base with splim := 0x0810#16, splimWritten := true, sr := 0x0041#16 }))
    (fun t => t.ramWord 0x0812#16 == 0x0041#16 && t.sp == 0x0814#16 && t.intcon1 == 0x0004#16) = true := by decide
/-- I14 and S2. -/
theorem test_pop_sr_nstdis : nextWith (runWord 0xF90042#24 (withMem [(0x0800#16, 0x0001#16)] (withW 15#4 0x0802#16
    { base with sr := 0x00E0#16, intcon1 := 0x8000#16 })))
    (fun t => t.sr == 0x00E1#16 && t.sp == 0x0800#16) = true := by decide
theorem test_pop_underflow : nextWith (runWord 0xF90042#24 wide)
    (fun t => t.intcon1 == 0x0004#16 && t.sp == 0x07FE#16) = true := by decide
/-- K1 and K7. -/
theorem test_disi_zero : nextWith (runWord 0xFC0000#24 base)
    (fun t => t.disicnt == 0#14 && t.intcon2 == 0x0000#16 && t.pc == 2#23) = true := by decide
theorem test_disi_again : nextWith (runWord 0xFC0003#24 { base with disicnt := 60#14, intcon2 := 0x4000#16 })
    (fun t => t.disicnt == 3#14 && t.intcon2 == 0x4000#16) = true := by decide
/-- R320. -/
theorem test_reset : nextWith (exec .reset (ready 3 7#3 { base with pc := 0x000210#23, sr := 0x00E0#16 }))
    (fun t => t.pc == 0#23 && t.sr == 0#16 && t.ipc.get 0 == 0x4444#16 && t.ifs.get 0 == 0#16) = true := by decide
/-- W1. -/
theorem test_pwrsav_idle : nextWith (runWord 0xFE4001#24 { base with pc := 0x000210#23 })
    (fun t => t.mode == .idle && t.pc == 0x000212#23) = true := by decide

/-! ### Traps, arbitration, entry (95_test_vectors.md sections 2.3, 2.4, 2.6 to 2.8) -/

/-- H1 and H2. -/
theorem test_odd_clr : nextWith (runWord 0xEF2901#24 base)
    (fun t => t.intcon1 == 0x0008#16 && t.mem == [] && t.pc == 2#23) = true := by decide
theorem test_odd_clr_conflict : nextWith (runWord 0xEF2901#24 { base with intcon1 := 0x0002#16 })
    (fun t => t.intcon1 == 0x0000#16 && t.trapr && t.pc == 0#23) = true := by decide
/-- M1: MATHERR stays while the overflow stands. -/
theorem test_matherr_blocked : nextWith (runWord 0x880400#24 (withW 0#4 0x0400#16
    { base with corcon := 0x0028#16, intcon1 := 0x4410#16, sr := 0x8060#16 }))
    (fun t => t.intcon1 == 0x0410#16) = true := by decide
/-- A1, A2, K9, K10. -/
theorem test_natural_order : (ready 7 4#3 (ready 3 4#3 base)).winner = some (.irq 3 4#3) := by decide
theorem test_user_priority : (ready 7 5#3 (ready 3 4#3 base)).winner = some (.irq 7 5#3) := by decide
theorem test_disi_masks_six : (ready 3 6#3 { base with intcon2 := 0x4000#16 }).winner = none := by decide
theorem test_disi_passes_seven :
    (ready 3 7#3 { base with intcon2 := 0x4000#16 }).winner = some (.irq 3 7#3) := by decide
/-- A12: a trap before every interrupt. -/
theorem test_trap_first :
    (ready 3 7#3 { base with intcon1 := 0x0010#16 }).winner = some (.trap .mathError) := by decide

/-- The state of EN1 to EN3. -/
def enBefore : State := withProg [(0x00003C#23, 0x000400#24), (0x00013C#23, 0x000500#24)] (withW 15#4 0x0820#16
  (ready 20 5#3 { base with pc := 0x012346#23, sr := 0x0060#16 }))

/-- EN1. -/
theorem test_entry : nextWith (exceptionEntry (.irq 20 5#3) enBefore)
    (fun t => t.ramWord 0x0820#16 == 0x2346#16 && t.ramWord 0x0822#16 == 0x6001#16 && t.sp == 0x0824#16
      && t.sr == 0x00A0#16 && t.inttreg == 0x0514#16 && t.pc == 0x000400#23 && t.flag 20) = true := by decide
/-- EN2 and EN3. -/
theorem test_entry_aivt_nstdis :
    nextWith (exceptionEntry (.irq 20 5#3) { enBefore with intcon2 := 0x8000#16, intcon1 := 0x8000#16 })
      (fun t => t.pc == 0x000500#23 && t.sr == 0x00E0#16 && t.inttreg == 0x0514#16) = true := by decide
/-- EN4. -/
theorem test_entry_trap : nextWith (exceptionEntry (.trap .stackError) (withProg [(0x00000A#23, 0x000290#24)]
    (withW 15#4 0x0900#16 { base with pc := 0x000400#23, sr := 0x0041#16, intcon1 := 0x0004#16 })))
    (fun t => t.ramWord 0x0900#16 == 0x0400#16 && t.ramWord 0x0902#16 == 0x4100#16 && t.sr == 0x0081#16
      && t.corcon == 0x0028#16 && t.pc == 0x000290#23 && t.intcon1 == 0x0004#16) = true := by decide
/-- W15 at its own address: the first push writes PC<15:0> into W15, the second goes 2 above it, into RAM; a DMA collision
then sets DMACERR (R118, R294). -/
theorem test_entry_at_w15 : nextWith (enterException true (.irq 20 5#3) (withW 15#4 0x001E#16
    { enBefore with pc := 0x010900#23 }))
    (fun t => t.ramWord 0x0902#16 == 0x6001#16 && t.sp == 0x0904#16 && t.intcon1 == 0x0024#16) = true := by decide
/-- The same with both words in registers: nothing collides. -/
theorem test_entry_at_w15_registers :
    entryWritesRam (withW 15#4 0x001E#16 { enBefore with pc := 0x010082#23 }) = false := by decide
/-- W3: a source wakes the CPU whatever its level. -/
theorem test_wake : nextWith (step (ready 3 4#3 { base with mode := .sleep, sr := 0x0080#16 }))
    (fun t => t.mode == .run && t.winner == none) = true := by decide
/-- E1: `initInterrupts` from the reset state, with the result the file gives. -/
theorem test_example_6_1 :
    let t := [(⟨nstdisField, 0⟩ : Assignment), ⟨Irq.prioField 8, 6⟩, ⟨Irq.prioField 7, 5⟩, ⟨Irq.prioField 19, 4⟩,
      ⟨Irq.prioField 27, 3⟩, ⟨Irq.prioField 3, 2⟩, ⟨Irq.flagField 3, 0⟩, ⟨Irq.enableField 19, 1⟩,
      ⟨Irq.enableField 3, 1⟩, ⟨Irq.enableField 7, 1⟩, ⟨Irq.enableField 8, 1⟩, ⟨Irq.enableField 27, 1⟩].foldl
      (fun s a => s.assign a) base
    t.intcon1 = 0x0000#16 ∧ t.ipc.get 2 = 0x4446#16 ∧ t.ipc.get 1 = 0x5444#16 ∧ t.ipc.get 4 = 0x4044#16
      ∧ t.ipc.get 6 = 0x3444#16 ∧ t.ipc.get 0 = 0x2444#16 ∧ t.ifs.get 0 = 0#16 ∧ t.iec.get 0 = 0x0188#16
      ∧ t.iec.get 1 = 0x0808#16 := by decide
/-- `disableInterrupts`, and nothing under NSTDIS = 1. -/
theorem test_disableInterrupts : (base.assign ⟨iplField, 7⟩).sr = 0x00E0#16
    ∧ (State.assign ⟨iplField, 0⟩ { base with sr := 0x00E0#16, intcon1 := 0x8000#16 }).sr = 0x00E0#16 := by decide
/-- X1. -/
theorem test_pin : nextWith (applyEvent (.pin 0 true) base)
    (fun t => t.ifs.get 0 == 0x0001#16 && t.pins == 1#5) = true := by decide

/-! ### Witnesses: states and operands that meet the hypotheses of each obligation, each clause at a boundary -/

/-- No conflict, whatever hard trap: the check of R312 decided by evaluation. -/
theorem not_conflict {h : Trap} {s : State}
    (hf : (allTraps.any fun u => decide (h.level.toNat < u.level.toNat) && s.tflag u) = false)
    (hl : decide (h.level.toNat < s.cpuIpl.toNat) = false) : ¬ Conflict h s := by
  rintro (⟨u, h1, h2⟩ | h1)
  · have hm : u ∈ allTraps := by cases u <;> decide
    have := List.any_eq_false.mp hf u hm
    simp [h1, h2] at this
  · simp [h1] at hl

/-- The three clauses of `RaisesHard .addressError`: a conflict by OSCFAIL and by level 14, the fault at level 13, and
no conflict at levels 12 and 0. -/
theorem witness_RaisesHard :
    Conflict .addressError { base with intcon1 := 0x0002#16 } ∧ Conflict .addressError (trapLevel 6#3 base)
      ∧ (¬ Conflict .addressError (trapLevel 5#3 base) ∧ (trapLevel 5#3 base).cpuIpl = Trap.addressError.level)
      ∧ (¬ Conflict .addressError (trapLevel 4#3 base) ∧ (trapLevel 4#3 base).cpuIpl ≠ Trap.addressError.level)
      ∧ (¬ Conflict .addressError base ∧ base.cpuIpl ≠ Trap.addressError.level) :=
  ⟨.inl ⟨.oscFail, by decide, by decide⟩, .inr (by decide), ⟨not_conflict (by decide) (by decide), by decide⟩,
    ⟨not_conflict (by decide) (by decide), by decide⟩, ⟨not_conflict (by decide) (by decide), by decide⟩⟩

/-- The same of `RaisesHard .oscFail`: level 15, level 14, level 13. -/
theorem witness_RaisesHard_oscFail :
    Conflict .oscFail (trapLevel 7#3 base)
      ∧ (¬ Conflict .oscFail (trapLevel 6#3 base) ∧ (trapLevel 6#3 base).cpuIpl = Trap.oscFail.level)
      ∧ (¬ Conflict .oscFail (trapLevel 5#3 base) ∧ (trapLevel 5#3 base).cpuIpl ≠ Trap.oscFail.level) :=
  ⟨.inr (by decide), ⟨not_conflict (by decide) (by decide), by decide⟩,
    ⟨not_conflict (by decide) (by decide), by decide⟩⟩

theorem witness_DecodeEncodeRoundTrip :
    (Instr.goto 0x7FFFFE#23).wf = true ∧ (Instr.movToReg 0xFFFE#16 15#4).wf = true
      ∧ (Instr.movToFile 15#4 0x0000#16).wf = true ∧ (Instr.push 0xFFFE#16).wf = true
      ∧ (Instr.pop 0x0000#16).wf = true ∧ (Instr.clr true false 0x1FFF#13).wf = true := by decide

theorem witness_EncodeDecodeRoundTrip :
    decode [0x04FFFE#24, 0x00007F#24, 0x000000#24] = .ok (.goto 0x7FFFFE#23) [0x000000#24] := by decide

/-- A GOTO word, and second words with the lowest and the highest bit of 23:7 set. -/
theorem witness_DecodeRejectsExactlyUnlisted :
    matchesRow 0x040200#24 (0x040000#24, 0xFF0001#24) = true ∧ 0x000080#24 &&& 0xFFFF80#24 ≠ 0#24
      ∧ 0x800000#24 &&& 0xFFFF80#24 ≠ 0#24
      ∧ opcodeRows.all (fun row => !matchesRow 0xDA0000#24 row) = true := by decide

/-- A GOTO placed at the pc is what the next step runs. -/
theorem witness_StepRunsDecodedInstruction :
    let s := base.withFetchWord 48 0x000000040200
    Arbitrates s s.tickOver ∧ s.tickOver.winner = none ∧ progImplemented s.tickOver.device s.tickOver.pc = true
      ∧ decode [s.tickOver.progWord s.tickOver.pc, s.tickOver.progWord (nextPc s.tickOver)]
          = .ok (.goto 0x000200#23) [] :=
  ⟨⟨rfl, rfl⟩, by decide, by decide, by decide⟩

/-- A run that ends at once: `BRA .` at the pc. -/
theorem witness_ended : Safety.ended 0x000000#23 (base.withFetchWord 24 0x37FFFF) :=
  ⟨rfl, rfl, by decide, rfl, by decide, rfl⟩

theorem witness_StepRefusesUnlistedWord :
    let s := base.withFetchWord 24 0xDA0000
    Arbitrates s s.tickOver ∧ s.tickOver.winner = none ∧ progImplemented s.tickOver.device s.tickOver.pc = true
      ∧ opcodeRows.all (fun row => !matchesRow (s.tickOver.progWord s.tickOver.pc) row) = true :=
  ⟨⟨rfl, rfl⟩, by decide, by decide, by decide⟩

/-- The last and the first implemented address; a branch back from 0 wraps below 0 to the top of the pc's width, on a
device that has that address, with 23 and with 10 bits. -/
theorem witness_JumpResult :
    let top := { base with device := { base.device with progRegions := [⟨0x7FFFFE, 0x7FFFFF⟩] } }
    ((0x0007FE#23).getLsbD 0 = false ∧ progImplemented base.device (pcValue base (0x0007FE#23).toNat) = true)
      ∧ progImplemented base.device (pcValue base (base.pc.toNat + 2 + 2 * (0xFFFF#16).toInt)) = true
      ∧ (pcValue top (top.pc.toNat + 2 + 2 * (0xFFFE#16).toInt) = 0x7FFFFE#23
        ∧ progImplemented top.device (pcValue top (top.pc.toNat + 2 + 2 * (0xFFFE#16).toInt)) = true)
      ∧ (pcValue narrow (narrow.pc.toNat + 2 + 2 * (0xFFFE#16).toInt) = 0x0003FE#23
        ∧ progImplemented narrow.device (pcValue narrow (0x000400#23).toNat) = true) := by decide

/-- The first unimplemented address, by GOTO and by BRA. -/
theorem witness_JumpToUnimplementedTraps :
    ((0x000800#23).getLsbD 0 = false ∧ 0x000800#23 = pcValue base (0x000800#23).toNat)
      ∧ progImplemented base.device 0x000800#23 = false
      ∧ 0x000800#23 = pcValue base (base.pc.toNat + 2 + 2 * (0x03FF#16).toInt) := by decide

/-- W15 at the lowest frame. -/
theorem witness_ReturnResult :
    WordOk (withW 15#4 0x0804#16 base) ((withW 15#4 0x0804#16 base).sp - 2#16)
      ∧ WordOk (withW 15#4 0x0804#16 base) ((withW 15#4 0x0804#16 base).sp - 4#16) := by
  unfold WordOk; decide

theorem witness_RetfieResult :
    WordOk (withW 15#4 0x1000#16 base) ((withW 15#4 0x1000#16 base).sp - 2#16)
      ∧ WordOk (withW 15#4 0x1000#16 base) ((withW 15#4 0x1000#16 base).sp - 4#16) := by
  unfold WordOk; decide

/-- The first and the last word of memory, and a register. -/
theorem witness_MovFileToRegisterResult :
    (WordOk base 0x0800#16 ∧ sfrAt base.device 0x0800#16 = none) ∧ WordOk base 0x0FFE#16
      ∧ (WordOk base 0x0042#16 ∧ sfrAt base.device 0x0042#16 = some .sr) := by
  unfold WordOk; decide

theorem witness_MovRegisterToFileResult :
    WordOk base 0x0800#16 ∧ WordOk base 0x0FFE#16 ∧ WordOk base 0x0052#16 := by
  unfold WordOk; decide

/-- A word, and bytes at the last address of memory and in the high half of a register. -/
theorem witness_ClearFileResult :
    WordOk base ((0x0FFE#13).zeroExtend 16) ∧ dataImplemented base.device ((0x0FFF#13).zeroExtend 16) = true
      ∧ dataImplemented base.device ((0x0043#13).zeroExtend 16) = true := by
  unfold WordOk; decide

theorem witness_PushResult : WordOk base 0x0042#16 ∧ WordOk base base.sp := by
  unfold WordOk; decide

theorem witness_PopResult :
    WordOk (withW 15#4 0x0802#16 base) ((withW 15#4 0x0802#16 base).sp - 2#16)
      ∧ WordOk (withW 15#4 0x0802#16 base) 0x0042#16 := by
  unfold WordOk; decide

theorem witness_PowerSaveResult :
    base.disiActive = false ∧ State.disiActive { base with disicnt := 1#14, intcon2 := 0x4000#16 } = true := by decide

/-- SPLIM = 0x0810 armed: an access just above it, and one at it; and one at 0x0800 with no limit. -/
theorem witness_StackOverflowCheck :
    let limited := fun sp : Word => withW 15#4 sp { base with splim := 0x0810#16, splimWritten := true }
    ((limited 0x0812#16).splimWritten = true ∧ (limited 0x0812#16).splim.toNat < (limited 0x0812#16).sp.toNat)
      ∧ (limited 0x0814#16).splim.toNat < ((limited 0x0814#16).sp - 2#16).toNat
      ∧ ((limited 0x0810#16).sp.toNat ≤ (limited 0x0810#16).splim.toNat ∧ 0x0800 ≤ (limited 0x0810#16).sp.toNat
        ∧ (limited 0x0810#16).sp.toNat < 0xFFFE ∧ WordOk (limited 0x0810#16) (limited 0x0810#16).sp
        ∧ sfrAt (limited 0x0810#16).device (limited 0x0810#16).sp = none)
      ∧ (base.splimWritten = false ∧ 0x0800 ≤ base.sp.toNat ∧ base.sp.toNat < 0xFFFE ∧ WordOk base base.sp
        ∧ sfrAt base.device base.sp = none)
      ∧ (((limited 0x0812#16).sp - 2#16).toNat ≤ (limited 0x0812#16).splim.toNat ∧ 0x0802 ≤ (limited 0x0812#16).sp.toNat
        ∧ WordOk (limited 0x0812#16) ((limited 0x0812#16).sp - 2#16)) := by
  unfold WordOk; decide

/-- Each boundary of the two stack checks that SPLIM does not take part in. -/
theorem witness_StackUnderflowAndWrap :
    (withW 15#4 0x07FE#16 wide).sp.toNat < 0x0800
      ∧ ((withW 15#4 0xFFFE#16 wide).sp = 0xFFFE#16
        ∧ sfrAt (withW 15#4 0xFFFE#16 wide).device (withW 15#4 0xFFFE#16 wide).sp ≠ some .w15)
      ∧ (base.sp - 2#16).toNat < 0x0800 ∧ (withW 15#4 0x0000#16 base).sp = 0x0000#16 := by decide

/-- One bad access of every instruction that can have one; a stack check that fails besides. -/
theorem witness_DataAddressErrorTraps :
    (accessBad (.movToReg 0x0801#16 0#4) base = true ∧ accessBad (.movToReg 0x1000#16 15#4) base = true
        ∧ stackFails (.pop 0x0801#16) base = true ∧ accessBad (.pop 0x0801#16) base = true)
      ∧ accessBad (.movToFile 0#4 0x1000#16) base = true
      ∧ accessBad (.clr false true 0x0901#13) base = true ∧ accessBad (.clr true true 0x1000#13) base = true
      ∧ accessBad (.push 0x1000#16) base = true ∧ accessBad (.push 0x0800#16) (withW 15#4 0x1000#16 base) = true
      ∧ accessBad (.pop 0x0800#16) base = true ∧ accessBad .ret (withW 15#4 0x0802#16 base) = true
      ∧ accessBad .retfie base = true := by decide

theorem witness_FetchFromUnimplementedTraps :
    let s := { base with pc := 0x000800#23 }
    Arbitrates s s.tickOver ∧ s.tickOver.winner = none
      ∧ progImplemented s.tickOver.device s.tickOver.pc = false :=
  ⟨⟨rfl, rfl⟩, by decide, by decide⟩

theorem witness_HardTraps :
    Conflict .addressError { base with intcon1 := 0x0002#16 } ∧ Conflict .addressError (trapLevel 6#3 base)
      ∧ Conflict .addressError (trapLevel 7#3 base) :=
  ⟨.inl ⟨.oscFail, by decide, by decide⟩, .inr (by decide), .inr (by decide)⟩

theorem witness_MathErrorEvents :
    State.covte { base with intcon1 := 0x0100#16 } = true ∧ base.intcon1.getLsbD 8 = false := by decide

/-- A colliding CLR of a word of memory, run with no winner; a colliding entry, at once, with its frame in memory; DMA
writes at the edges of memory and at a register. -/
theorem witness_DmaAndMemory :
    let s := { (base.withFetchWord 24 0xEF2900) with env := [⟨[], true⟩] }
    let u := s.tickOver
    let e := { enBefore with env := [⟨[], true⟩] }
    (progImplemented u.device u.pc = true
      ∧ (∃ rest, decode [u.progWord u.pc, u.progWord (nextPc u)] = .ok (.clr false true 0x0900#13) rest)
      ∧ writesRam (.clr false true 0x0900#13) u = true ∧ ∃ t, exec (.clr false true 0x0900#13) u = .next t)
      ∧ (Arbitrates s u ∧ u.winner = none ∧ s.slot.dmaCollision = true)
      ∧ (Arbitrates e e.tickOver ∧ e.slot.dmaCollision = true ∧ e.tickOver.winner = some (.irq 20 5#3)
        ∧ entryWritesRam e.tickOver = true
        ∧ ∃ t, exceptionEntry (.irq 20 5#3) { e.tickOver with stalePrio := [] } = .next t)
      ∧ (dataImplemented base.device 0x0FFF#16 = true ∧ sfrAt base.device (0x0FFF#16 &&& 0xFFFE#16) = none)
      ∧ dataImplemented base.device 0x1000#16 = false
      ∧ (sfrAt base.device (0x0043#16 &&& 0xFFFE#16)).isSome = true :=
  ⟨⟨by decide, ⟨_, rfl⟩, by decide, _, rfl⟩, ⟨⟨rfl, rfl⟩, by decide, rfl⟩,
    ⟨⟨rfl, rfl⟩, rfl, by decide, by decide, _, rfl⟩, by decide, by decide, by decide⟩

theorem witness_Eligibility :
    (∀ p ∈ base.stalePrio, p.1 ≠ (3 : Irq)) ∧ (ready 3 1#3 base).eligible 3 = true
      ∧ State.trapEligible { base with intcon1 := 0x0020#16, corcon := 0x0028#16, sr := 0x0020#16 } .dmacError = true := by
  decide

/-- IPC0 rewritten while T1 is enabled, at CPU levels 6 and 7. -/
theorem witness_PriorityChangedOnTheFly :
    let s := ready 3 4#3 { base with sr := 0x00C0#16 }
    (s.en 3 = true ∧ s.cpuIpl.toNat < 7 ∧ (s.writeSfr (.ipc 0) 0x2444#16 0xFFFF#16).prio 3 ≠ s.prio 3)
      ∧ (7 ≤ (State.cpuIpl { s with sr := 0x00E0#16 }).toNat ∧ ∀ p ∈ s.stalePrio, p.1 ≠ (3 : Irq))
      ∧ (3, s.prio 3) ∈ (s.writeSfr (.ipc 0) 0x2444#16 0xFFFF#16).stalePrio
      ∧ base.en 3 = false := by decide

/-- A hard trap; an interrupt with the delay used up, and with one instruction still to go. -/
theorem witness_AcknowledgeDelay :
    let hard := { base with intcon1 := 0x0008#16 }
    let late := ready 3 4#3 { base with skid := 2 }
    let early := ready 3 4#3 { base with skid := 1 }
    (Arbitrates hard hard.tickOver ∧ hard.tickOver.winner = some (.trap .addressError))
      ∧ (Arbitrates late late.tickOver ∧ late.tickOver.winner = some (.irq 3 4#3)
        ∧ late.tickOver.device.skidMax ≤ late.tickOver.skid)
      ∧ (Arbitrates early early.tickOver ∧ early.tickOver.winner = some (.irq 3 4#3)
        ∧ early.tickOver.skid < early.tickOver.device.skidMax) :=
  ⟨⟨⟨rfl, rfl⟩, by decide⟩, ⟨⟨rfl, rfl⟩, by decide, by decide⟩, ⟨⟨rfl, rfl⟩, by decide, by decide⟩⟩

/-- The lowest frame and the highest; a frame in two registers; one that goes into W15 itself and above what that
leaves there. -/
theorem witness_ExceptionEntryResult :
    let regs := withW 15#4 0x0080#16 base
    let self := withW 15#4 0x001E#16 { base with pc := 0x0007FE#23 }
    (RamFrame base base.sp ∧ RamFrame (withW 15#4 0x0FFC#16 base) (withW 15#4 0x0FFC#16 base).sp)
      ∧ (WordOk regs regs.sp ∧ frameSecond regs = 0x0082#16 ∧ WordOk regs (frameSecond regs))
      ∧ (WordOk self self.sp ∧ frameSecond self = 0x0800#16 ∧ WordOk self (frameSecond self)) := by
  unfold RamFrame WordOk; decide

/-- Only the second word outside memory; both inside. -/
theorem witness_EntryOnBadStack :
    (withW 15#4 0x0FFE#16 base).entryBad = true
      ∧ ¬ WordOk (withW 15#4 0x0FFE#16 base) (frameSecond (withW 15#4 0x0FFE#16 base))
      ∧ base.entryBad = false ∧ WordOk base base.sp ∧ WordOk base (frameSecond base) := by
  unfold WordOk; decide

theorem witness_RetfieUndoesEntry :
    RamFrame enBefore enBefore.sp ∧ enBefore.pc.getLsbD 0 = false ∧ enBefore.pc.toNat < 2 ^ enBefore.device.pcw := by
  unfold RamFrame WordOk; decide

/-- An interrupt and a trap that have won; a source of the same level; NSTDIS set. -/
theorem witness_EntryRaisesLevel :
    (enBefore.winner = some (.irq 20 5#3) ∧ RamFrame enBefore enBefore.sp
        ∧ ∃ t, exceptionEntry (.irq 20 5#3) enBefore = .next t ∧ (t.arbPrio 20).toNat ≤ 5)
      ∧ (State.winner { enBefore with intcon1 := 0x8000#16 } = some (.irq 20 5#3)
        ∧ State.nstdis { enBefore with intcon1 := 0x8000#16 } = true)
      ∧ (State.winner { base with intcon1 := 0x0004#16 } = some (.trap .stackError)
        ∧ ∃ t, exceptionEntry (.trap .stackError) { base with intcon1 := 0x0004#16 } = .next t) :=
  ⟨⟨by decide, by unfold RamFrame WordOk; decide, _, rfl, by decide⟩, by decide, by decide, _, rfl⟩

/-- A wake by a source of priority 1 at CPU level 7; an eligible trap; nothing. -/
theorem witness_PowerStep :
    let awake := ready 3 1#3 { base with mode := .sleep, sr := 0x00E0#16 }
    let trapped := { base with mode := .idle, intcon1 := 0x0004#16 }
    let still := ready 3 0#3 { base with mode := .sleep }
    (applyEvents awake.slot.events awake.tickOver = .next awake.tickOver ∧ awake.tickOver.mode ≠ .run
        ∧ awake.tickOver.flag 3 = true ∧ awake.tickOver.en 3 = true ∧ 1 ≤ (awake.tickOver.prio 3).toNat)
      ∧ (trapped.tickOver.mode ≠ .run
        ∧ (∀ i : Irq, ¬ (trapped.tickOver.flag i = true ∧ trapped.tickOver.en i = true
            ∧ 1 ≤ (trapped.tickOver.prio i).toNat))
        ∧ ∃ t : Trap, trapped.tickOver.trapEligible t = true)
      ∧ (still.tickOver.mode ≠ .run
        ∧ (∀ i : Irq, ¬ (still.tickOver.flag i = true ∧ still.tickOver.en i = true
            ∧ 1 ≤ (still.tickOver.prio i).toNat))
        ∧ ∀ t : Trap, still.tickOver.trapEligible t = false) :=
  ⟨⟨rfl, by decide, by decide, by decide, by decide⟩, ⟨by decide, by decide, .stackError, by decide⟩,
    by decide, by decide, by intro t; cases t <;> decide⟩

theorem witness_WriteIntcon2 : (ready 0 4#3 base).flag 0 = true := by decide

/-- Inside a DISI period; outside one with the values 0 and 1; a byte write that merges with the count. -/
theorem witness_WriteDisicnt :
    State.disiActive { base with disicnt := 1#14, intcon2 := 0x4000#16 } = true ∧ base.disiActive = false
      ∧ (∀ i, i < 14 → (0#14).getLsbD i = if (0xFFFF#16).getLsbD i then (0xC000#16).getLsbD i else base.disicnt.getLsbD i)
      ∧ (∀ i, i < 14 → (0x0105#14).getLsbD i
          = if (0x00FF#16).getLsbD i then (0x0505#16).getLsbD i
            else (State.disicnt { base with disicnt := 0x01FF#14 }).getLsbD i) := by decide

theorem witness_WriteSplimInttregRcon :
    State.trapr { base with trapr := true } = true ∧ (0x8000#16).getLsbD 15 = true ∧ (0x7FFF#16).getLsbD 15 = false := by
  decide

/-- T1 on the default device, with NSTDIS clear and set, and a slot with an event before the assignment. -/
theorem witness_AssignmentWritesOneField :
    hasSource base.device 3 = true ∧ base.nstdis = false ∧ State.nstdis { base with intcon1 := 0x8000#16 } = true
      ∧ ∃ u, applyEvents (State.slot { base with env := [⟨[.fire 3], false⟩] }).events base.tickOver = .next u
          ∧ u.flag 3 = true := ⟨by decide, by decide, by decide, _, rfl, by decide⟩

theorem witness_ReadRegisters :
    State.splimWritten { base with splimWritten := true } = true ∧ base.disicntUnspecified = false := by decide

/-- A store to CORCON that leaves IPL3 set, and a store to SR under NSTDIS. -/
theorem witness_SoftwareAndPriorityLevel :
    (Instr.movToFile 0#4 0x0044#16 ≠ .retfie
        ∧ ∃ t, exec (.movToFile 0#4 0x0044#16) (trapLevel 4#3 (withW 0#4 0x0008#16 base)) = .next t ∧ t.ipl3 = true)
      ∧ ∃ t, exec (.movToFile 1#4 0x0042#16) { base with sr := 0x00E0#16, intcon1 := 0x8000#16 } = .next t
        ∧ base.epoch = t.epoch :=
  ⟨⟨by decide, _, rfl, by decide⟩, _, rfl, rfl⟩

theorem witness_ExecKeepsReadOnlyState :
    ∃ t, exec (.pop 0x0042#16) (withW 15#4 0x0802#16 base) = .next t ∧ t.epoch = base.epoch :=
  ⟨_, rfl, rfl⟩

theorem witness_ResetValues : ∃ t, t = deviceReset .trapConflict (ready 3 7#3 base) := ⟨_, rfl⟩

theorem witness_ResetPriorities : ∃ t, base.device = State.reset.device ∧ t = deviceReset .software base := ⟨_, rfl, rfl⟩

/-- A PUSH that a step runs from the state after reset, and an entry that a step makes. -/
theorem witness_StepKeepsInvariants :
    let s := base.withFetchWord 24 0xF80042
    let e := { enBefore with skid := 2 }
    (EvenPointers s ∧ Canonical s ∧ DisiConsistent s ∧ ∃ t, step s = .next t ∧ t.sp = 0x0802#16)
      ∧ EvenPointers e ∧ Canonical e ∧ DisiConsistent e ∧ ∃ t, step e = .next t ∧ t.sp = 0x0824#16 := by
  unfold EvenPointers Canonical DisiConsistent
  exact ⟨⟨by decide, by decide, by decide, _, rfl, by decide⟩, by decide, by decide, by decide, _, rfl, by decide⟩

/-- The reserved bits of the same state. -/
theorem witness_StepKeepsReservedZero : ReservedZero (base.withFetchWord 24 0xF80042) := by
  unfold ReservedZero; decide

end Sys2Proof.Tests
end

section
/-! SUPPORT. The layer under the two statements of 00_scope.md: bits that masked writes leave at 0, the bits of the
registers of the sources, and what a step keeps when each of its parts does. -/

namespace Sys2Proof

/-- A write of one bit outside a mask keeps the mask's bits at 0. -/
theorem setBit_and_zero (w m : Word) (i : Nat) (b : Bool) (hi : i < 16) (hm : m.getLsbD i = false)
    (h : w &&& m = 0#16) : setBit w i b &&& m = 0#16 := by
  rw [and_eq_zero_iff] at *
  intro j hj hmj
  rw [getLsbD_setBit _ _ _ _ hi, if_neg (by rintro rfl; simp [hm] at hmj)]
  exact h j hj hmj

/-- Nothing of a word is left under the complement of a mask that was put on it. -/
theorem and_mask_and_compl (w m : Word) : w &&& m &&& ~~~m = 0#16 := by
  rw [BitVec.and_assoc, BitVec.and_not_self]; exact BitVec.and_zero

/-- A bit of a masked word, from the bit of the mask. -/
theorem getLsbD_and_of_mask {w m : Word} {i : Nat} {b : Bool} (hm : m.getLsbD i = b) :
    (w &&& m).getLsbD i = (b && w.getLsbD i) := by
  rw [getLsbD_and_word, hm, Bool.and_comm]

end Sys2Proof

namespace Sys2Proof.Machine

/-- A software write keeps at 0 every bit that no R/W bit of the register covers. -/
theorem accessWrite_and_zero (old v rw rc be m : Word) (hrw : rw &&& m = 0#16) (h : old &&& m = 0#16) :
    accessWrite old v rw rc be &&& m = 0#16 := by
  have hbits : rw &&& be &&& m = 0#16 := by
    rw [BitVec.and_assoc, BitVec.and_comm be, ← BitVec.and_assoc, hrw, BitVec.zero_and]
  unfold accessWrite
  rw [BitVec.and_assoc, BitVec.and_comm _ m, ← BitVec.and_assoc, replaceBits_and_zero _ _ _ _ h hbits,
    BitVec.zero_and]

/-! ### Registers of the sources -/

/-- Every word of the registers has only bits of its mask. -/
def WithinMasks {n : Nat} (mask : Fin n → Word) (v : Vector Word n) : Prop :=
  ∀ k : Fin n, v.get k &&& ~~~ mask k = 0#16

/-- A replaced word that has only bits of its mask keeps the registers within theirs. -/
theorem WithinMasks.set {n : Nat} {mask : Fin n → Word} {v : Vector Word n} (h : WithinMasks mask v) (k : Fin n)
    (w : Word) (hw : w &&& ~~~ mask k = 0#16) : WithinMasks mask (v.set k.val w k.isLt) := by
  intro j
  by_cases hj : j = k
  · subst hj; rwa [vget_set_same _ _ _ _ _ rfl]
  · rw [vget_set_other _ _ _ _ _ (fun e => hj (Fin.ext e))]; exact h j

/-- A software write through the mask of a register keeps the registers within their masks. -/
theorem WithinMasks.accessWrite {n : Nat} {mask : Fin n → Word} {v : Vector Word n} (h : WithinMasks mask v)
    (k : Fin n) (w rc be : Word) :
    WithinMasks mask (v.set k.val (accessWrite (v.get k) w (mask k) rc be) k.isLt) :=
  h.set k _ (accessWrite_and_zero _ _ _ _ _ _ (BitVec.and_not_self _) (h k))

/-- The flag that a source sets is an implemented bit. -/
theorem WithinMasks.withFlag {d : Device} {f : Vector Word 5} (h : WithinMasks (sourceMask d) f) (i : Irq) :
    WithinMasks (sourceMask d) (withFlag d i f) := by
  unfold Machine.withFlag
  split
  · next hs =>
    have hi : i.bit < 16 := Nat.mod_lt _ (by decide)
    have hbit : (~~~ sourceMask d i.reg).getLsbD i.bit = false := by
      rw [BitVec.getLsbD_not, show (sourceMask d i.reg).getLsbD i.bit = true from hs]; simp
    exact h.set i.reg _ (setBit_and_zero _ _ _ _ hi hbit (h i.reg))
  · exact h

theorem WithinMasks.withFlagIf {d : Device} {f : Vector Word 5} (h : WithinMasks (sourceMask d) f) (b : Bool)
    (i : Irq) : WithinMasks (sourceMask d) (if b then Machine.withFlag d i f else f) := by
  cases b
  · exact h
  · exact h.withFlag i

/-- The pins whose edge bit a write of INTCON2 changes may set their flags, which are implemented bits (R206). -/
theorem WithinMasks.glitches {s : State} {f : Vector Word 5} (h : WithinMasks (sourceMask s.device) f) (new : Word)
    (ks : List (Fin 5)) : WithinMasks (sourceMask s.device) (ks.foldl (s.glitch new) f) := by
  induction ks generalizing f with
  | nil => exact h
  | cons k ks ih => exact ih (h.withFlagIf _ (extIrq k))

/-- The words of a vector of equal zeros. -/
theorem withinMasks_zero {n : Nat} (mask : Fin n → Word) : WithinMasks mask (Vector.replicate n 0x0000#16) := by
  intro k
  rw [Vector.get_eq_getElem, Vector.getElem_replicate]
  exact BitVec.zero_and

/-- The reset priorities are implemented bits (R90). -/
theorem withinMasks_resetIpc (d : Device) : WithinMasks (ipcMask d) (Vector.ofFn (resetIpc d)) := by
  intro j
  rw [Vector.get_eq_getElem, Vector.getElem_ofFn]
  exact and_mask_and_compl _ _

/-! ### The bits of the masks -/

/-- The priority field of a source has the three low bits of its nibble (R71). -/
theorem getLsbD_ipcFieldMask (d : Device) (i : Irq) (n : Nat) (hn : n < 16) :
    (ipcFieldMask d i).getLsbD n = (hasSource d i && decide (n / 4 = i.val % 4 ∧ n % 4 < 3)) := by
  have hfield : (0x0007#16 <<< i.ipcLow).getLsbD n = decide (n / 4 = i.val % 4 ∧ n % 4 < 3) := by
    rw [show (0x0007#16 <<< i.ipcLow) = i.prioField.mask from rfl, getLsbD_fieldMask _ n hn, ← Bool.decide_and,
      decide_eq_decide]
    show 4 * (i.val % 4) ≤ n ∧ n < 4 * (i.val % 4) + 3 ↔ _
    omega
  unfold ipcFieldMask
  cases hasSource d i
  · simp
  · rw [if_pos rfl, hfield, Bool.true_and]

/-- Bit `n` of IPCj belongs to source `4 * j + n / 4`, and bit 3 of each nibble to none (R87, R89). -/
theorem getLsbD_ipcMask (d : Device) (j : Fin 18) (n : Nat) (hn : n < 16) :
    (ipcMask d j).getLsbD n = (decide (n % 4 < 3) && hasSource d ⟨4 * j.val + n / 4, by omega⟩) := by
  have hnibble : n / 4 = 0 ∨ n / 4 = 1 ∨ n / 4 = 2 ∨ n / 4 = 3 := by omega
  unfold ipcMask
  simp only [BitVec.getLsbD_or, getLsbD_ipcFieldMask _ _ n hn]
  rcases hnibble with h | h | h | h <;> simp [h, Nat.add_mod, Bool.and_comm]

/-- IFS4 and IEC4 have no bit above 7 (R74). -/
theorem getLsbD_sourceMask_four (d : Device) (n : Nat) (hn : 8 ≤ n) : (sourceMask d 4).getLsbD n = false := by
  have hnamed : (namedMask 4).getLsbD n = false := by
    by_cases h : n < 16
    · exact (by decide : ∀ n < 16, 8 ≤ n → (namedMask 4).getLsbD n = false) n h hn
    · exact BitVec.getLsbD_of_ge _ _ (by omega)
  unfold sourceMask
  rw [BitVec.getLsbD_and, hnamed, Bool.false_and]

/-! ### The step -/

/-- A property that each part of a step keeps: the slot taken off, an event, the wake-up, the arbitration's bookkeeping,
an instruction, a fetch from unimplemented program memory, an exception entry and a DMA collision. -/
structure KeptByParts (P : State → Prop) : Prop where
  tickOver : ∀ s, P s → P s.tickOver
  event : ∀ e s t, P s → applyEvent e s = .next t → P t
  wake : ∀ s, P s → P { s with mode := .run }
  arbitrate : ∀ s k, P s → P { s with stalePrio := [], skid := k }
  exec : ∀ i s t, P s → s.mode = .run → exec i s = .next t → P t
  fetchError : ∀ s t, P s → s.mode = .run →
    settle true s ((s.setTflag .addressError).losePc.finish .fetchError false) = .next t → P t
  entry : ∀ r s t, P s → s.mode = .run → exceptionEntry r s = .next t → P t
  collision : ∀ s, P s → P (s.setTflag .dmacError)

/-- What every part of a step keeps, the step keeps (60_exceptions.md R215). -/
theorem KeptByParts.step {P : State → Prop} (parts : KeptByParts P) (s t : State) (hs : P s)
    (h : step s = .next t) : P t := by
  have collided : ∀ v, P v → t = v ∨ t = v.setTflag .dmacError → P t := by
    rintro v hv (rfl | rfl)
    · exact hv
    · exact parts.collision v hv
  obtain ⟨u, hu, hcases⟩ := step_cases s t h
  have hPu : P u := applyEvents_induction P parts.event _ _ _ (parts.tickOver s hs) hu
  rcases hcases with ⟨-, rfl | rfl⟩ | ⟨hm, k, -, hexec⟩ | ⟨hm, r, v, -, hv, ht⟩
  · exact hPu
  · exact parts.wake u hPu
  · have hPk := parts.arbitrate u k hPu
    rcases hexec with ⟨i, rest, v, -, hv, ht⟩ | hlost
    · exact collided v (parts.exec i _ v hPk hm hv) ht
    · exact parts.fetchError _ t hPk hm hlost
  · exact collided v (parts.entry r _ v (parts.arbitrate u u.skid hPu) hm hv) ht

end Sys2Proof.Machine
end

section
/-! SUPPORT. Every operation of the model keeps every unimplemented bit at 0 (00_scope.md R9), and the settlement of
StepKeepsReservedZero. An operation that touches none of the registers with unimplemented bits keeps the property as it
stands. -/

namespace Sys2Proof.Claims

open Sys2Proof Sys2Proof.Machine

variable {s : State}

/-! ### Writes of one register -/

theorem ReservedZero.withCorcon (h : ReservedZero s) {w : Word} (hw : w &&& 0xE000#16 = 0#16) :
    ReservedZero { s with corcon := w } := by
  obtain ⟨-, hrest⟩ := h
  exact ⟨hw, hrest⟩

theorem ReservedZero.withIntcon1 (h : ReservedZero s) {w : Word} (hw : w &&& 0x0001#16 = 0#16) :
    ReservedZero { s with intcon1 := w } := by
  obtain ⟨hcorcon, -, hrest⟩ := h
  exact ⟨hcorcon, hw, hrest⟩

theorem ReservedZero.withIntcon2 (h : ReservedZero s) {w : Word} (hw : w &&& 0x3FE0#16 = 0#16) :
    ReservedZero { s with intcon2 := w } := by
  obtain ⟨hcorcon, hintcon1, -, hrest⟩ := h
  exact ⟨hcorcon, hintcon1, hw, hrest⟩

theorem ReservedZero.withInttreg (h : ReservedZero s) {w : Word} (hw : w &&& 0xF080#16 = 0#16) :
    ReservedZero { s with inttreg := w } := by
  obtain ⟨hcorcon, hintcon1, hintcon2, -, hrest⟩ := h
  exact ⟨hcorcon, hintcon1, hintcon2, hw, hrest⟩

theorem ReservedZero.withIfs (h : ReservedZero s) {v : Vector Word 5} (hv : WithinMasks (sourceMask s.device) v) :
    ReservedZero { s with ifs := v } := by
  obtain ⟨hcorcon, hintcon1, hintcon2, hinttreg, -, hrest⟩ := h
  exact ⟨hcorcon, hintcon1, hintcon2, hinttreg, hv, hrest⟩

theorem ReservedZero.withIec (h : ReservedZero s) {v : Vector Word 5} (hv : WithinMasks (sourceMask s.device) v) :
    ReservedZero { s with iec := v } := by
  obtain ⟨hcorcon, hintcon1, hintcon2, hinttreg, hifs, -, hipc⟩ := h
  exact ⟨hcorcon, hintcon1, hintcon2, hinttreg, hifs, hv, hipc⟩

theorem ReservedZero.withIpc (h : ReservedZero s) {v : Vector Word 18} (hv : WithinMasks (ipcMask s.device) v) :
    ReservedZero { s with ipc := v } := by
  obtain ⟨hcorcon, hintcon1, hintcon2, hinttreg, hifs, hiec, -⟩ := h
  exact ⟨hcorcon, hintcon1, hintcon2, hinttreg, hifs, hiec, hv⟩

/-! ### What the property says of one register -/

theorem ReservedZero.corcon_zero (h : ReservedZero s) : s.corcon &&& 0xE000#16 = 0#16 := by
  obtain ⟨hcorcon, -⟩ := h
  exact hcorcon

theorem ReservedZero.intcon1_zero (h : ReservedZero s) : s.intcon1 &&& 0x0001#16 = 0#16 := by
  obtain ⟨-, hintcon1, -⟩ := h
  exact hintcon1

theorem ReservedZero.intcon2_zero (h : ReservedZero s) : s.intcon2 &&& 0x3FE0#16 = 0#16 := by
  obtain ⟨-, -, hintcon2, -⟩ := h
  exact hintcon2

theorem ReservedZero.ifs_within (h : ReservedZero s) : WithinMasks (sourceMask s.device) s.ifs := by
  obtain ⟨-, -, -, -, hifs, -⟩ := h
  exact hifs

theorem ReservedZero.iec_within (h : ReservedZero s) : WithinMasks (sourceMask s.device) s.iec := by
  obtain ⟨-, -, -, -, -, hiec, -⟩ := h
  exact hiec

theorem ReservedZero.ipc_within (h : ReservedZero s) : WithinMasks (ipcMask s.device) s.ipc := by
  obtain ⟨-, -, -, -, -, -, hipc⟩ := h
  exact hipc

/-! ### Named bits -/

/-- INTCON1 has no unimplemented bit but bit 0 (10_state.md R38). -/
theorem intcon1_setBit_zero {w : Word} (hw : w &&& 0x0001#16 = 0#16) (i : Nat) (b : Bool) (hi : i < 16) (h0 : i ≠ 0) :
    setBit w i b &&& 0x0001#16 = 0#16 :=
  setBit_and_zero _ _ _ _ hi ((getLsbD_one_shiftLeft 0 i (by decide)).trans (decide_eq_false h0)) hw

theorem ReservedZero.setIntcon1Bit (h : ReservedZero s) (i : Nat) (hi : i < 16) (h0 : i ≠ 0) :
    ReservedZero (s.setIntcon1Bit i) :=
  h.withIntcon1 (intcon1_setBit_zero h.intcon1_zero i true hi h0)

/-- The status bit of a trap is implemented. -/
theorem trap_bit_implemented (t : Trap) : t.bit < 16 ∧ t.bit ≠ 0 := by cases t <;> decide

theorem ReservedZero.setTflag (h : ReservedZero s) (t : Trap) : ReservedZero (s.setTflag t) :=
  h.setIntcon1Bit t.bit (trap_bit_implemented t).1 (trap_bit_implemented t).2

theorem ReservedZero.setTflagIf (h : ReservedZero s) (b : Bool) (t : Trap) : ReservedZero (s.setTflagIf b t) := by
  cases b
  · exact h
  · exact h.setTflag t

/-- INTCON2 with DISI written. -/
theorem ReservedZero.setDisiActive (h : ReservedZero s) (b : Bool) : ReservedZero (s.setDisiActive b) :=
  h.withIntcon2 (setBit_and_zero _ _ _ _ (by decide) (by decide) h.intcon2_zero)

theorem ReservedZero.setIpl3 (h : ReservedZero s) (b : Bool) : ReservedZero (s.setIpl3 b) :=
  h.withCorcon (setBit_and_zero _ _ _ _ (by decide) (by decide) h.corcon_zero)

/-- INTCON1 with a cause bit and MATHERR set (61_traps.md R285). -/
theorem mathCause_zero {w : Word} (hw : w &&& 0x0001#16 = 0#16) (causeBit : Nat) (hi : causeBit < 16)
    (h0 : causeBit ≠ 0) : mathCause causeBit w &&& 0x0001#16 = 0#16 :=
  intcon1_setBit_zero (intcon1_setBit_zero hw causeBit true hi h0) _ true (by decide) (by decide)

theorem mathCauseIf_zero {w : Word} (hw : w &&& 0x0001#16 = 0#16) (b : Bool) (causeBit : Nat) (hi : causeBit < 16)
    (h0 : causeBit ≠ 0) : (if b then mathCause causeBit w else w) &&& 0x0001#16 = 0#16 := by
  cases b
  · exact hw
  · exact mathCause_zero hw causeBit hi h0

/-! ### Software writes of registers -/

theorem ReservedZero.loadW (h : ReservedZero s) (r : WReg) (v : Word) : ReservedZero (s.loadW r v) :=
  ReservedZero.setTflagIf (s := s.setW r v) h _ _

theorem ReservedZero.writeCorcon (h : ReservedZero s) (v be : Word) : ReservedZero (s.writeCorcon v be) :=
  h.withCorcon (accessWrite_and_zero _ _ _ _ _ _ (by decide) h.corcon_zero)

/-- A write of DISICNT writes INTCON2.DISI at most (40_interrupt_instructions.md R153). -/
theorem ReservedZero.writeDisicnt (h : ReservedZero s) (v be : Word) : ReservedZero (s.writeDisicnt v be) := by
  refine h.withIntcon2 (w := (s.writeDisicnt v be).intcon2) ?_
  show (if s.disiActive then setBit s.intcon2 14 _ else s.intcon2) &&& _ = _
  split
  · exact (h.setDisiActive _).intcon2_zero
  · exact h.intcon2_zero

theorem ReservedZero.writeIntcon1 (h : ReservedZero s) (v be : Word) : ReservedZero (s.writeIntcon1 v be) := by
  have hwritten : accessWrite s.intcon1 v 0xFFFE#16 0x0000#16 be &&& 0x0001#16 = 0#16 :=
    accessWrite_and_zero _ _ _ _ _ _ (by decide) h.intcon1_zero
  refine h.withIntcon1 ?_
  split
  · exact intcon1_setBit_zero hwritten 4 true (by decide) (by decide)
  · exact hwritten

theorem ReservedZero.writeIntcon2 (h : ReservedZero s) (v be : Word) : ReservedZero (s.writeIntcon2 v be) :=
  (h.withIfs (h.ifs_within.glitches _ _)).withIntcon2 (accessWrite_and_zero _ _ _ _ _ _ (by decide) h.intcon2_zero)

/-- A software write of a register writes implemented bits only (00_scope.md R9). -/
theorem ReservedZero.writeSfr (h : ReservedZero s) (r : Sfr) (v be : Word) : ReservedZero (s.writeSfr r v be) := by
  cases r with
  | w15 => exact h.loadW _ _
  | corcon => exact h.writeCorcon v be
  | disicnt => exact h.writeDisicnt v be
  | intcon1 => exact h.writeIntcon1 v be
  | intcon2 => exact h.writeIntcon2 v be
  | ifs k => exact h.withIfs (h.ifs_within.accessWrite k v _ be)
  | iec k => exact h.withIec (h.iec_within.accessWrite k v _ be)
  | ipc j => exact h.withIpc (h.ipc_within.accessWrite j v _ be)
  | splim | sr | inttreg | rcon | osccon => exact h

/-! ### Data memory and the stack -/

theorem ReservedZero.putWord (h : ReservedZero s) (a : DAddr) (v : Word) : ReservedZero (s.putWord a v) := by
  rcases putWord_eq a v s with ⟨r, -, e⟩ | ⟨-, e⟩ <;> rw [e]
  · exact h.writeSfr r v _
  · exact h

theorem ReservedZero.putByte (h : ReservedZero s) (a : DAddr) (v : Byte) : ReservedZero (s.putByte a v) := by
  rcases putByte_eq a v s with ⟨r, -, e⟩ | ⟨-, e⟩ <;> rw [e]
  · exact h.writeSfr r _ _
  · exact h

theorem ReservedZero.readWord (h : ReservedZero s) (a : DAddr) : ReservedZero (s.readWord a).2 := by
  rcases readWord_eq a s with ⟨-, e⟩ | ⟨-, e⟩ <;> rw [e]
  · exact h
  · exact h.setTflag _

theorem ReservedZero.writeWord (h : ReservedZero s) (inhibit : Bool) (a : DAddr) (v : Word) :
    ReservedZero (s.writeWord inhibit a v) := by
  rcases writeWord_eq inhibit a v s with ⟨-, e⟩ | ⟨-, -, e⟩ | ⟨-, -, e⟩ <;> rw [e]
  · exact h.setTflag _
  · exact h
  · exact h.putWord a v

theorem ReservedZero.writeByte (h : ReservedZero s) (a : DAddr) (v : Byte) : ReservedZero (s.writeByte a v) := by
  unfold State.writeByte
  split
  · exact h.setTflag _
  · exact h.putByte a v

theorem ReservedZero.pushWord (h : ReservedZero s) (inhibit : Bool) (v : Word) : ReservedZero (s.pushWord inhibit v) :=
  (h.writeWord inhibit s.sp v).setTflagIf _ _

theorem ReservedZero.popWord (h : ReservedZero s) : ReservedZero s.popWord.2 :=
  (ReservedZero.readWord (s := s.setSp (s.sp - 2#16)) h _).setTflagIf _ _

/-! ### Shared operations -/

theorem ReservedZero.countDown (h : ReservedZero s) (c : Nat) : ReservedZero (s.countDown c) := by
  refine h.withIntcon2 (w := (s.countDown c).intcon2) ?_
  rw [countDown_intcon2]
  split
  · exact (h.setDisiActive false).intcon2_zero
  · exact h.intcon2_zero

theorem ReservedZero.finish (h : ReservedZero s) (k : StepKind) (wrote : Bool) : ReservedZero (s.finish k wrote) := by
  rcases finish_eq k wrote s with ⟨-, e⟩ | ⟨-, e⟩ <;> rw [e]
  · exact h
  · exact h.countDown _

/-- Every kind of device Reset leaves the unimplemented bits 0, whatever they were (10_state.md R53). -/
theorem reservedZero_deviceReset (k : ResetKind) (s : State) : ReservedZero (deviceReset k s) :=
  ⟨(by decide : 0x0020#16 &&& 0xE000#16 = 0#16), BitVec.zero_and, BitVec.zero_and, BitVec.zero_and,
    withinMasks_zero _, withinMasks_zero _, withinMasks_resetIpc _⟩

theorem reservedZero_of_settle {bad : Bool} {s after t : State} (h : ReservedZero after)
    (ht : settle bad s after = .next t) : ReservedZero t := by
  rcases settle_next bad s after t ht with rfl | rfl
  · exact h
  · exact reservedZero_deviceReset _ _

theorem reservedZero_of_raiseHard {t : Trap} {s after u : State} (h : ReservedZero after)
    (hu : raiseHard t s after = .next u) : ReservedZero u := by
  rcases raiseHard_eq t s after with ⟨-, e⟩ | ⟨-, e⟩ | ⟨-, e⟩ <;> rw [e] at hu <;> cases hu
  · exact reservedZero_deviceReset _ _
  · exact h

/-- INTTREG holds ILR in bits 11:8 and VECNUM in bits 6:0 (R45). -/
theorem inttregWord_zero (lvl : Level) (vecnum : BitVec 7) : inttregWord lvl vecnum &&& 0xF080#16 = 0#16 := by
  rw [and_eq_zero_iff]
  intro i hi hm
  have hbit : i = 7 ∨ 12 ≤ i :=
    (by decide : ∀ i < 16, (0xF080#16).getLsbD i = true → i = 7 ∨ 12 ≤ i) i hi hm
  show (0#4 ++ lvl ++ 0#1 ++ vecnum : BitVec (4 + 4 + 1 + 7)).getLsbD i = false
  simp only [BitVec.getLsbD_append, BitVec.getLsbD_zero]
  rcases hbit with rfl | h12
  · rfl
  · simp [show ¬ i < 7 by omega, show ¬ i - 7 < 1 by omega, show ¬ i - 7 - 1 < 4 by omega]

theorem ReservedZero.enterPriority (h : ReservedZero s) (r : Request) : ReservedZero (s.enterPriority r) := by
  cases r with
  | irq i p => exact h
  | trap t => exact h.setIpl3 true

theorem ReservedZero.pushFrame (h : ReservedZero s) : ReservedZero s.pushFrame :=
  ((ReservedZero.pushWord (s := s.latchTemp) h _ _).pushWord _ _).setTflagIf _ _

theorem ReservedZero.afterEntry (h : ReservedZero s) (r : Request) : ReservedZero (s.afterEntry r) :=
  ((h.pushFrame.enterPriority r).withInttreg (inttregWord_zero _ _)).countDown _

theorem ReservedZero.popFrame (h : ReservedZero s) : ReservedZero s.popFrame.2.2 := h.popWord.popWord

theorem ReservedZero.restoreStatus (h : ReservedZero s) (hi : Word) : ReservedZero (s.restoreStatus hi) :=
  ReservedZero.setIpl3 (s := { s with sr := _ }) h _

/-! ### Instructions -/

theorem ReservedZero.jumpTo {t : State} (h : ReservedZero s) {k : StepKind} {target : PAddr}
    (ht : jumpTo k target s = .next t) : ReservedZero t := by
  unfold Machine.jumpTo at ht
  split at ht
  · cases ht; exact ReservedZero.finish (s := s.setPc target) h _ _
  · exact reservedZero_of_settle (ReservedZero.finish (s := (s.setTflag .addressError).losePc) (h.setTflag _) _ _) ht

/-- The end of an instruction of one word: the pc moves on, and the countdown runs. -/
theorem ReservedZero.advanceFinish (h : ReservedZero s) (n : Nat) (k : StepKind) (wrote : Bool) :
    ReservedZero ((s.advance n).finish k wrote) :=
  ReservedZero.finish (s := s.advance n) h k wrote

theorem ReservedZero.execClr {t : State} (h : ReservedZero s) {byteOp toFile : Bool} {f : BitVec 13}
    (ht : execClr byteOp toFile f s = .next t) : ReservedZero t := by
  unfold Machine.execClr at ht
  split at ht
  · cases ht; exact (h.loadW _ _).advanceFinish _ _ _
  · split at ht
    · exact reservedZero_of_settle ((h.writeByte _ _).advanceFinish _ _ _) ht
    · exact reservedZero_of_settle ((h.writeWord _ _ _).advanceFinish _ _ _) ht

theorem ReservedZero.execPwrsav {t : State} (h : ReservedZero s) {lit : BitVec 1}
    (ht : execPwrsav lit s = .next t) : ReservedZero t := by
  unfold Machine.execPwrsav at ht
  split at ht
  · cases ht
  · cases ht; exact ReservedZero.finish (s := { s.advance 2 with mode := _ }) h _ _

theorem ReservedZero.exec {t : State} (h : ReservedZero s) (i : Instr) (ht : exec i s = .next t) :
    ReservedZero t := by
  cases i with
  | nop x => cases ht; exact h.advanceFinish _ _ _
  | goto target => exact h.jumpTo ht
  | ret => exact reservedZero_of_settle (ReservedZero.finish (s := s.popFrame.2.2.setPc _) h.popFrame _ _) ht
  | retfie =>
    exact reservedZero_of_settle
      (ReservedZero.finish (s := (s.popFrame.2.2.restoreStatus _).setPc _) (h.popFrame.restoreStatus _) _ _) ht
  | movLit k d => cases ht; exact (h.loadW _ _).advanceFinish _ _ _
  | bra n => exact h.jumpTo ht
  | movToReg f d => exact reservedZero_of_settle (((h.readWord f).loadW _ _).advanceFinish _ _ _) ht
  | movToFile ws f => exact reservedZero_of_settle ((h.writeWord _ _ _).advanceFinish _ _ _) ht
  | clr b d f => exact h.execClr ht
  | push f => exact reservedZero_of_settle (((h.readWord f).pushWord _ _).advanceFinish _ _ _) ht
  | pop f => exact reservedZero_of_settle ((h.popWord.writeWord _ _ _).advanceFinish _ _ _) ht
  | disi k => cases ht; exact ReservedZero.setDisiActive (s := { s with disicnt := k, disicntUnspecified := false }) h _
  | reset => cases ht; exact reservedZero_deviceReset _ _
  | pwrsav k => exact h.execPwrsav ht

/-! ### Events -/

theorem ReservedZero.setAcc (h : ReservedZero s) (acc : Acc) (v : AccVal) : ReservedZero (s.setAcc acc v) := by
  cases acc <;> exact h

theorem ReservedZero.pinEvent (h : ReservedZero s) (k : Fin 5) (level : Bool) : ReservedZero (s.pinEvent k level) :=
  h.withIfs (v := (s.pinEvent k level).ifs) (h.ifs_within.withFlagIf _ _)

theorem ReservedZero.mathError (h : ReservedZero s) (causeBit : Nat) (hi : causeBit < 16) (h0 : causeBit ≠ 0) :
    ReservedZero (s.mathError causeBit) :=
  h.withIntcon1 (mathCause_zero h.intcon1_zero causeBit hi h0)

theorem ReservedZero.accOverflow (h : ReservedZero s) (acc : Acc) (v : AccVal) : ReservedZero (s.accOverflow acc v) :=
  ReservedZero.withIntcon1 (s := { s.setAcc acc v with sr := _ }) (h.setAcc acc v)
    (mathCauseIf_zero h.intcon1_zero _ _ (by cases acc <;> decide) (by cases acc <;> decide))

theorem ReservedZero.accCatastrophic (h : ReservedZero s) (acc : Acc) (v : AccVal) :
    ReservedZero (s.accCatastrophic acc v) :=
  (h.setAcc acc v).withIntcon1
    (mathCauseIf_zero h.intcon1_zero _ _ (by cases acc <;> decide) (by cases acc <;> decide))

theorem ReservedZero.dmaWrite (h : ReservedZero s) (a : DAddr) (v : Byte) : ReservedZero (s.dmaWrite a v) := by
  unfold State.dmaWrite
  split <;> exact h

theorem ReservedZero.event {t : State} (h : ReservedZero s) (e : Event) (ht : applyEvent e s = .next t) :
    ReservedZero t := by
  cases e with
  | oscFail => exact reservedZero_of_raiseHard (ReservedZero.setTflag (s := { s with cf := true }) h _) ht
  | dataAddressError => exact reservedZero_of_raiseHard (h.setTflag _) ht
  | fire i => cases ht; exact h.withIfs (h.ifs_within.withFlag i)
  | pin k level => cases ht; exact h.pinEvent k level
  | accOverflow acc v => cases ht; exact h.accOverflow acc v
  | accCatastrophic acc v => cases ht; exact h.accCatastrophic acc v
  | accResult acc v => cases ht; exact h.setAcc acc v
  | divideByZero => cases ht; exact h.mathError 6 (by decide) (by decide)
  | shiftError => cases ht; exact h.mathError 7 (by decide) (by decide)
  | dmaWrite a v => cases ht; exact h.dmaWrite a v
  | reset kind => cases ht; exact reservedZero_deviceReset _ _

/-! ### The step -/

theorem reservedZero_keptByParts : KeptByParts ReservedZero where
  tickOver _ h := h
  event e _ _ h ht := h.event e ht
  wake _ h := h
  arbitrate _ _ h := h
  exec i _ _ h _ ht := h.exec i ht
  fetchError s _ h _ ht :=
    reservedZero_of_settle (ReservedZero.finish (s := (s.setTflag .addressError).losePc) (h.setTflag _) _ _) ht
  entry r _ _ h _ ht := reservedZero_of_settle (h.afterEntry r) ht
  collision _ h := h.setTflag _

/-- Settles O58: each part of a step writes implemented bits only. -/
theorem stepKeepsReservedZero : Obligations.StepKeepsReservedZero :=
  reservedZero_keptByParts.step

end Sys2Proof.Claims
end

section
/-! SUPPORT. What a read of each register gives, and the settlement of ReadRegisters. -/

namespace Sys2Proof.Machine

variable (s : State) (a : DAddr) (n : Nat)

/-! ### The control registers -/

/-- CORCON has its low 13 bits (10_state.md R32). -/
theorem getLsbD_readSfr_corcon (hn : n < 16) :
    (s.readSfr .corcon a).getLsbD n = (decide (n ≤ 12) && s.corcon.getLsbD n) :=
  getLsbD_and_of_mask ((by decide : ∀ n < 16, (0x1FFF#16).getLsbD n = decide (n ≤ 12)) n hn)

/-- INTCON1 has every bit but bit 0 (R38). -/
theorem getLsbD_readSfr_intcon1 (hn : n < 16) :
    (s.readSfr .intcon1 a).getLsbD n = (decide (1 ≤ n) && s.intcon1.getLsbD n) :=
  getLsbD_and_of_mask ((by decide : ∀ n < 16, (0xFFFE#16).getLsbD n = decide (1 ≤ n)) n hn)

/-- INTCON2 has the edge bits, DISI and ALTIVT (R42). -/
theorem getLsbD_readSfr_intcon2 (hn : n < 16) :
    (s.readSfr .intcon2 a).getLsbD n = (decide (n ≤ 4 ∨ 14 ≤ n) && s.intcon2.getLsbD n) :=
  getLsbD_and_of_mask ((by decide : ∀ n < 16, (0xC01F#16).getLsbD n = decide (n ≤ 4 ∨ 14 ≤ n)) n hn)

/-- INTTREG has VECNUM and ILR (R45). -/
theorem getLsbD_readSfr_inttreg (hn : n < 16) :
    (s.readSfr .inttreg a).getLsbD n = (decide (n ≤ 11 ∧ n ≠ 7) && s.inttreg.getLsbD n) :=
  getLsbD_and_of_mask ((by decide : ∀ n < 16, (0x0F7F#16).getLsbD n = decide (n ≤ 11 ∧ n ≠ 7)) n hn)

theorem readSfr_splim_written (h : s.splimWritten = true) : s.readSfr .splim a = s.splim := if_pos h

theorem readSfr_disicnt_specified (h : s.disicntUnspecified = false) :
    s.readSfr .disicnt a = s.disicnt.zeroExtend 16 :=
  if_neg (by simp [h])

/-- DISICNT has 14 bits, also in its unspecified condition (R35). -/
theorem getLsbD_readSfr_disicnt_high (hn : 14 ≤ n) : (s.readSfr .disicnt a).getLsbD n = false := by
  show (if s.disicntUnspecified then Config.freeRead s.tick a &&& 0x3FFF#16 else s.disicnt.zeroExtend 16).getLsbD n = _
  split
  · have hmask : (0x3FFF#16).getLsbD n = false := by
      rw [show (0x3FFF#16) = (BitVec.allOnes 14).zeroExtend 16 by decide, BitVec.getLsbD_setWidth,
        BitVec.getLsbD_of_ge _ n hn, Bool.and_false]
    rw [getLsbD_and_word, hmask, Bool.and_false]
  · rw [BitVec.getLsbD_setWidth, BitVec.getLsbD_of_ge _ n hn, Bool.and_false]

/-- TRAPR is bit 15 of RCON (R47). -/
theorem getLsbD_readSfr_rcon : (s.readSfr .rcon a).getLsbD 15 = s.trapr :=
  (getLsbD_setBit _ _ _ _ (by decide)).trans (if_pos rfl)

/-- CF is bit 3 of OSCCON (R48). -/
theorem getLsbD_readSfr_osccon : (s.readSfr .osccon a).getLsbD 3 = s.cf :=
  (getLsbD_setBit _ _ _ _ (by decide)).trans (if_pos rfl)

/-! ### The registers of the sources (11_interrupt_registers.md R71) -/

theorem getLsbD_readSfr_ifs (k : Fin 5) :
    (s.readSfr (.ifs k) a).getLsbD n = ((s.ifs.get k).getLsbD n && (sourceMask s.device k).getLsbD n) :=
  getLsbD_and_word _ _ n

theorem getLsbD_readSfr_iec (k : Fin 5) :
    (s.readSfr (.iec k) a).getLsbD n = ((s.iec.get k).getLsbD n && (sourceMask s.device k).getLsbD n) :=
  getLsbD_and_word _ _ n

theorem getLsbD_readSfr_ipc (j : Fin 18) :
    (s.readSfr (.ipc j) a).getLsbD n = ((s.ipc.get j).getLsbD n && (ipcMask s.device j).getLsbD n) :=
  getLsbD_and_word _ _ n

/-- Bit 3 of each nibble of an IPC register is unimplemented (R87). -/
theorem getLsbD_readSfr_ipc_nibbleTop (j : Fin 18) (hn : n < 16) (h : n % 4 = 3) :
    (s.readSfr (.ipc j) a).getLsbD n = false := by
  rw [getLsbD_readSfr_ipc, getLsbD_ipcMask _ _ n hn]
  simp [h]

/-- The flag of a source stands at its bit of its IFS register. -/
theorem getLsbD_readSfr_flag (i : Irq) : (s.readSfr (.ifs i.reg) a).getLsbD i.bit = s.flag i :=
  (getLsbD_readSfr_ifs s a i.bit i.reg).trans (Bool.and_comm _ _)

/-- The enable of a source stands at its bit of its IEC register. -/
theorem getLsbD_readSfr_enable (i : Irq) : (s.readSfr (.iec i.reg) a).getLsbD i.bit = s.en i :=
  (getLsbD_readSfr_iec s a i.bit i.reg).trans (Bool.and_comm _ _)

/-- The bits of a source's priority field are implemented exactly if the device has the source (R89). -/
theorem getLsbD_ipcMask_field (d : Device) (i : Irq) (b : Nat) (hb : b < 3) :
    (ipcMask d i.ipcReg).getLsbD (i.ipcLow + b) = hasSource d i := by
  have hlow : i.ipcLow = 4 * (i.val % 4) := rfl
  have hsource : (⟨4 * i.ipcReg.val + (i.ipcLow + b) / 4, by have := i.ipcReg.isLt; omega⟩ : Irq) = i :=
    Fin.ext (by show 4 * (i.val / 4) + (i.ipcLow + b) / 4 = i.val; omega)
  rw [getLsbD_ipcMask _ _ _ (by omega), hsource, decide_eq_true (by omega), Bool.true_and]

/-- The priority of a source stands in its field of its IPC register. -/
theorem extractLsb'_readSfr_prio (i : Irq) : (s.readSfr (.ipc i.ipcReg) a).extractLsb' i.ipcLow 3 = s.prio i := by
  apply BitVec.eq_of_getLsbD_eq
  intro b hb
  rw [BitVec.getLsbD_extractLsb', getLsbD_readSfr_ipc, getLsbD_ipcMask_field _ _ _ hb]
  unfold State.prio
  cases hasSource s.device i <;> simp [hb]

/-- Settles O47: each register's read from its own lemma. -/
theorem readRegisters : Obligations.ReadRegisters := by
  intro s a n hn
  refine ⟨rfl, rfl, readSfr_splim_written s a, getLsbD_readSfr_corcon s a n hn, getLsbD_readSfr_intcon1 s a n hn,
    getLsbD_readSfr_intcon2 s a n hn, getLsbD_readSfr_inttreg s a n hn, readSfr_disicnt_specified s a,
    getLsbD_readSfr_disicnt_high s a n, getLsbD_readSfr_rcon s a, getLsbD_readSfr_osccon s a,
    fun k => ⟨getLsbD_readSfr_ifs s a n k, getLsbD_readSfr_iec s a n k⟩, getLsbD_readSfr_ipc s a n,
    fun j => getLsbD_readSfr_ipc_nibbleTop s a n j hn, fun h8 => ⟨?_, ?_⟩,
    fun i => ⟨getLsbD_readSfr_flag s a i, getLsbD_readSfr_enable s a i, extractLsb'_readSfr_prio s a i⟩⟩
  · rw [getLsbD_readSfr_ifs, getLsbD_sourceMask_four _ n h8, Bool.and_false]
  · rw [getLsbD_readSfr_iec, getLsbD_sourceMask_four _ n h8, Bool.and_false]

end Sys2Proof.Machine
end

section
/-! SUPPORT. What an instruction, an exception entry and an event can do to a property of the state: each is made of a
few operations, with at most one software write among those of an instruction, and a property that these keep, the
whole keeps, short of a device Reset. -/

namespace Sys2Proof.Machine

/-! ### Even addresses -/

/-- Bit 0 of a program address is its parity. -/
theorem pcEven_iff_toNat {a : PAddr} : a.getLsbD 0 = false ↔ a.toNat % 2 = 0 := by
  rw [BitVec.getLsbD, Nat.testBit_zero]
  simp

/-- The pc after a word keeps its parity. -/
theorem even_add_two {a : PAddr} (h : a.getLsbD 0 = false) : (a + 2#23).getLsbD 0 = false := by
  rw [pcEven_iff_toNat] at h ⊢
  rw [BitVec.toNat_add, BitVec.toNat_ofNat]
  omega

/-- The target of BRA is as even as the pc. -/
theorem even_braTarget {pc : PAddr} (offset : BitVec 16) (h : pc.getLsbD 0 = false) :
    (braTarget pc offset).getLsbD 0 = false := by
  have hnext := even_add_two h
  rw [pcEven_iff_toNat] at hnext ⊢
  unfold braTarget
  rw [BitVec.toNat_add, BitVec.toNat_mul, BitVec.toNat_ofNat 2 23]
  omega

/-- The target of GOTO is even (30_encoding.md R134). -/
theorem even_gotoTarget (a : PAddr) : (a &&& 0x7FFFFE#23).getLsbD 0 = false := by simp

/-- The pc of a frame is even (40_interrupt_instructions.md R154). -/
theorem even_frameTarget (hi lo : Word) : (frameTarget hi lo).getLsbD 0 = false :=
  (BitVec.getLsbD_append).trans rfl

/-- The target of a vector is even (20_memory.md R106). -/
theorem even_vectorTarget (v : PWord) : (vectorTarget v).getLsbD 0 = false :=
  (BitVec.getLsbD_append).trans rfl

/-! ### Resets -/

/-- `t` is `s` after a device Reset of some kind. -/
def IsReset (s t : State) : Prop := ∃ k, t = deviceReset k s

/-- A step that settles keeps what its effects have, or resets the device. -/
theorem kept_of_settle {P : State → Prop} {bad : Bool} {s after t : State} (h : P after)
    (ht : settle bad s after = .next t) : P t ∨ IsReset s t := by
  rcases settle_next bad s after t ht with rfl | rfl
  · exact .inl h
  · exact .inr ⟨_, rfl⟩

/-- A property that every Reset establishes holds where it is kept or the device is reset. -/
theorem of_kept_or_reset {P : State → Prop} {s t : State} (hreset : ∀ k s, P (deviceReset k s))
    (h : P t ∨ IsReset s t) : P t := by
  rcases h with h | ⟨k, rfl⟩
  · exact h
  · exact hreset k s

/-! ### The operations of an instruction -/

/-- A property that a register load and a raised status bit keep. -/
structure KeptByLoads (P : State → Prop) : Prop where
  setW : ∀ {s}, P s → ∀ r v, P (s.setW r v)
  setTflag : ∀ {s}, P s → ∀ t, P (s.setTflag t)

/-- A property that every effect but a software write of a register keeps: also a store to memory, a move of the pc to
an address as even as the pc, and the countdown. -/
structure KeptByEffects (P : State → Prop) : Prop extends KeptByLoads P where
  setRamByte : ∀ {s}, P s → ∀ a v, P (s.setRamByte a v)
  setPc : ∀ {s}, P s → ∀ a, (s.pc.getLsbD 0 = false → a.getLsbD 0 = false) → P (s.setPc a)
  countDown : ∀ {s}, P s → ∀ c, P (s.countDown c)

/-- `P` holds up to the software write of an instruction, and `Q` from it on. -/
structure KeptAcrossWrite (P Q : State → Prop) : Prop where
  before : KeptByLoads P
  after : KeptByEffects Q
  unwritten : ∀ {s}, P s → Q s
  write : ∀ {s}, P s → ∀ r v be, Q (s.writeSfr r v be)

/-- A property that also every software write keeps needs no distinction. -/
theorem KeptByEffects.acrossWrite {P : State → Prop} (ops : KeptByEffects P)
    (write : ∀ {s}, P s → ∀ r v be, P (s.writeSfr r v be)) : KeptAcrossWrite P P where
  before := ops.toKeptByLoads
  after := ops
  unwritten h := h
  write := write

section
variable {P Q : State → Prop} {s t : State}

theorem KeptByLoads.setTflagIf (ops : KeptByLoads P) (hs : P s) (b : Bool) (t : Trap) : P (s.setTflagIf b t) := by
  cases b
  · exact hs
  · exact ops.setTflag hs t

theorem KeptByLoads.loadW (ops : KeptByLoads P) (hs : P s) (r : WReg) (v : Word) : P (s.loadW r v) :=
  ops.setTflagIf (ops.setW hs r v) _ _

theorem KeptByLoads.readWord (ops : KeptByLoads P) (hs : P s) (a : DAddr) : P (s.readWord a).2 := by
  rcases readWord_eq a s with ⟨-, e⟩ | ⟨-, e⟩ <;> rw [e]
  · exact hs
  · exact ops.setTflag hs _

theorem KeptByLoads.popWord (ops : KeptByLoads P) (hs : P s) : P s.popWord.2 :=
  ops.setTflagIf (ops.readWord (ops.setW hs _ _) _) _ _

theorem KeptByEffects.setRamWord (ops : KeptByEffects P) (hs : P s) (a : DAddr) (v : Word) : P (s.setRamWord a v) :=
  ops.setRamByte (ops.setRamByte hs _ _) _ _

theorem KeptByEffects.finish (ops : KeptByEffects P) (hs : P s) (k : StepKind) (wrote : Bool) :
    P (s.finish k wrote) := by
  rcases finish_eq k wrote s with ⟨-, e⟩ | ⟨-, e⟩ <;> rw [e]
  · exact hs
  · exact ops.countDown hs _

theorem KeptByEffects.advance (ops : KeptByEffects P) (hs : P s) : P (s.advance 2) :=
  ops.setPc hs _ even_add_two

theorem KeptByEffects.advanceFinish (ops : KeptByEffects P) (hs : P s) (k : StepKind) (wrote : Bool) :
    P ((s.advance 2).finish k wrote) :=
  ops.finish (ops.advance hs) k wrote

theorem KeptByEffects.losePc (ops : KeptByEffects P) (hs : P s) : P s.losePc :=
  ops.setPc hs _ fun _ => (BitVec.getLsbD_append).trans rfl

/-- An address error at the pc or at a jump's target: the status bit is set, and the pc lost. -/
theorem KeptByEffects.lostFinish (ops : KeptByEffects P) (hs : P s) (k : StepKind) :
    P ((s.setTflag .addressError).losePc.finish k false) :=
  ops.finish (ops.losePc (ops.setTflag hs _)) k false

theorem KeptByEffects.jumpTo (ops : KeptByEffects P) (hs : P s) {k : StepKind} {target : PAddr}
    (heven : s.pc.getLsbD 0 = false → target.getLsbD 0 = false) (ht : jumpTo k target s = .next t) :
    P t ∨ IsReset s t := by
  unfold Machine.jumpTo at ht
  split at ht
  · cases ht; exact .inl (ops.finish (ops.setPc hs _ heven) _ _)
  · exact kept_of_settle (ops.lostFinish hs k) ht

theorem KeptAcrossWrite.putWord (ops : KeptAcrossWrite P Q) (hs : P s) (a : DAddr) (v : Word) :
    Q (s.putWord a v) := by
  rcases putWord_eq a v s with ⟨r, -, e⟩ | ⟨-, e⟩ <;> rw [e]
  · exact ops.write hs _ _ _
  · exact ops.after.setRamWord (ops.unwritten hs) _ _

theorem KeptAcrossWrite.putByte (ops : KeptAcrossWrite P Q) (hs : P s) (a : DAddr) (v : Byte) :
    Q (s.putByte a v) := by
  rcases putByte_eq a v s with ⟨r, -, e⟩ | ⟨-, e⟩ <;> rw [e]
  · exact ops.write hs _ _ _
  · exact ops.after.setRamByte (ops.unwritten hs) _ _

theorem KeptAcrossWrite.writeWord (ops : KeptAcrossWrite P Q) (hs : P s) (inhibit : Bool) (a : DAddr) (v : Word) :
    Q (s.writeWord inhibit a v) := by
  rcases writeWord_eq inhibit a v s with ⟨-, e⟩ | ⟨-, -, e⟩ | ⟨-, -, e⟩ <;> rw [e]
  · exact ops.after.setTflag (ops.unwritten hs) _
  · exact ops.unwritten hs
  · exact ops.putWord hs a v

theorem KeptAcrossWrite.writeByte (ops : KeptAcrossWrite P Q) (hs : P s) (a : DAddr) (v : Byte) :
    Q (s.writeByte a v) := by
  unfold State.writeByte
  split
  · exact ops.after.setTflag (ops.unwritten hs) _
  · exact ops.putByte hs a v

theorem KeptAcrossWrite.pushWord (ops : KeptAcrossWrite P Q) (hs : P s) (inhibit : Bool) (v : Word) :
    Q (s.pushWord inhibit v) :=
  ops.after.setW (ops.after.setTflagIf (ops.writeWord hs _ _ _) _ _) _ _

/-! ### Instructions -/

theorem KeptAcrossWrite.execClr (ops : KeptAcrossWrite P Q) (hs : P s) {byteOp toFile : Bool} {f : BitVec 13}
    (ht : execClr byteOp toFile f s = .next t) : Q t ∨ IsReset s t := by
  unfold Machine.execClr at ht
  split at ht
  · cases ht; exact .inl (ops.after.advanceFinish (ops.after.loadW (ops.unwritten hs) _ _) _ _)
  · split at ht
    · exact kept_of_settle (ops.after.advanceFinish (ops.writeByte hs _ _) _ _) ht
    · exact kept_of_settle (ops.after.advanceFinish (ops.writeWord hs _ _ _) _ _) ht

/-- What the operations of an instruction keep, the instruction keeps or resets the device. DISI, PWRSAV and RETFIE each
do one thing more, which the property has to bear only where it is that instruction. -/
theorem KeptAcrossWrite.exec (ops : KeptAcrossWrite P Q) {i : Instr} (hs : P s) (ht : exec i s = .next t)
    (hdisi : ∀ lit, i = .disi lit →
      Q (State.setDisiActive (lit != 0#14) { s with disicnt := lit, disicntUnspecified := false }))
    (hpwrsav : ∀ lit mode, i = .pwrsav lit → s.disiActive = false → Q { s with mode := mode })
    (hretfie : i = .retfie → ∀ u hi, Q u → Q (u.restoreStatus hi)) : Q t ∨ IsReset s t := by
  have hq : Q s := ops.unwritten hs
  have hpopped : Q s.popFrame.2.2 := ops.after.popWord (ops.after.popWord hq)
  cases i with
  | nop x => cases ht; exact .inl (ops.after.advanceFinish hq _ _)
  | goto target => exact ops.after.jumpTo hq (fun _ => even_gotoTarget target) ht
  | ret => exact kept_of_settle (ops.after.finish (ops.after.setPc hpopped _ fun _ => even_frameTarget _ _) _ _) ht
  | retfie =>
    exact kept_of_settle (ops.after.finish
      (ops.after.setPc (hretfie rfl _ _ hpopped) _ fun _ => even_frameTarget _ _) _ _) ht
  | movLit k d => cases ht; exact .inl (ops.after.advanceFinish (ops.after.loadW hq _ _) _ _)
  | bra n => exact ops.after.jumpTo hq (even_braTarget n) ht
  | movToReg f d =>
    exact kept_of_settle (ops.after.advanceFinish (ops.after.loadW (ops.after.readWord hq f) _ _) _ _) ht
  | movToFile ws f => exact kept_of_settle (ops.after.advanceFinish (ops.writeWord hs _ _ _) _ _) ht
  | clr b d f => exact ops.execClr hs ht
  | push f => exact kept_of_settle (ops.after.advanceFinish (ops.pushWord (ops.before.readWord hs f) _ _) _ _) ht
  | pop f => exact kept_of_settle (ops.after.advanceFinish (ops.writeWord (ops.before.popWord hs) _ _ _) _ _) ht
  | disi k => cases ht; exact .inl (ops.after.advance (hdisi k rfl))
  | reset => cases ht; exact .inr ⟨_, rfl⟩
  | pwrsav k =>
    change execPwrsav k s = .next t at ht
    unfold execPwrsav at ht
    split at ht
    · cases ht
    · next hd =>
      cases ht
      exact .inl (ops.after.advanceFinish
        (hpwrsav k (if k = 0#1 then .sleep else .idle) rfl (Bool.eq_false_of_not_eq_true hd)) _ _)

/-! ### Exception entry -/

/-- An entry keeps what its two pushes keep, if also the new priority, INTTREG, the mode and the delay count do. -/
theorem KeptAcrossWrite.entry (ops : KeptAcrossWrite P P) {r : Request} (hlatch : P s.latchTemp)
    (henter : ∀ u vecnum, P u →
      P { u.enterPriority r with inttreg := inttregWord r.level vecnum, mode := .run, skid := 0 })
    (ht : exceptionEntry r s = .next t) : P t ∨ IsReset s t := by
  have hpushed : P s.pushFrame := ops.after.setTflagIf (ops.pushWord (ops.pushWord hlatch _ _) _ _) _ _
  exact kept_of_settle
    (ops.after.countDown (ops.after.setPc (henter _ _ hpushed) _ fun _ => even_vectorTarget _) _) ht

end

/-! ### Events -/

/-- An event is a Reset, or changes nothing but SR, the accumulators, INTCON1, the flags, CF, the pins and memory. -/
theorem applyEvent_eq {e : Event} {s t : State} (ht : applyEvent e s = .next t) :
    IsReset s t ∨ t = { s with
      sr := t.sr, accA := t.accA, accB := t.accB, intcon1 := t.intcon1, ifs := t.ifs, cf := t.cf, pins := t.pins,
      mem := t.mem } := by
  have raised : ∀ {h : Trap} {after : State}, raiseHard h s after = .next t → IsReset s t ∨ t = after := by
    intro h after hr
    rcases raiseHard_eq h s after with ⟨-, e⟩ | ⟨-, e⟩ | ⟨-, e⟩ <;> rw [e] at hr <;> cases hr
    · exact .inl ⟨_, rfl⟩
    · exact .inr rfl
  cases e with
  | oscFail => exact (raised ht).imp_right fun h => by rw [h]; rfl
  | dataAddressError => exact (raised ht).imp_right fun h => by rw [h]; rfl
  | reset kind => cases ht; exact .inl ⟨kind, rfl⟩
  | accOverflow acc v | accCatastrophic acc v | accResult acc v => cases ht; right; cases acc <;> rfl
  | dmaWrite a v =>
    cases ht; right
    unfold State.dmaWrite
    split <;> rfl
  | fire i | pin k level | divideByZero | shiftError => cases ht; exact .inr rfl

/-! ### The step -/

/-- A property that every Reset establishes and each part of a step keeps, short of a Reset. -/
structure KeptInStep (P : State → Prop) : Prop where
  ops : KeptAcrossWrite P P
  reset : ∀ k s, P (deviceReset k s)
  tickOver : ∀ s, P s → P s.tickOver
  wake : ∀ s, P s → P { s with mode := .run }
  arbitrate : ∀ s k, P s → P { s with stalePrio := [], skid := k }
  event : ∀ e s t, P s → applyEvent e s = .next t → P t ∨ IsReset s t
  exec : ∀ i s t, P s → s.mode = .run → exec i s = .next t → P t ∨ IsReset s t
  entry : ∀ r s t, P s → exceptionEntry r s = .next t → P t ∨ IsReset s t

theorem KeptInStep.keptByParts {P : State → Prop} (kept : KeptInStep P) : KeptByParts P where
  tickOver := kept.tickOver
  event _ _ _ h ht := of_kept_or_reset kept.reset (kept.event _ _ _ h ht)
  wake := kept.wake
  arbitrate := kept.arbitrate
  exec _ _ _ h hm ht := of_kept_or_reset kept.reset (kept.exec _ _ _ h hm ht)
  fetchError _ _ h _ ht := of_kept_or_reset kept.reset (kept_of_settle (kept.ops.after.lostFinish h _) ht)
  entry _ _ _ h _ ht := of_kept_or_reset kept.reset (kept.entry _ _ _ h ht)
  collision _ h := kept.ops.after.setTflag h _

end Sys2Proof.Machine
end

section
/-! SUPPORT. Every part of a step keeps PC<0> and W15<0> at 0 and the pc within PCW bits (10_state.md R20, R24), and the
settlement of StepKeepsEvenPointers. -/

namespace Sys2Proof.Machine

/-- W15 stays where another register is written. -/
theorem sp_setW_of_ne {r : WReg} (hr : r ≠ 15#4) (v : Word) (s : State) : (s.setW r v).sp = s.sp :=
  vget_set_other s.w r.toNat _ r.isLt 15 fun e => hr (BitVec.eq_of_toNat_eq e.symm)

end Sys2Proof.Machine

namespace Sys2Proof.Claims

open Sys2Proof Sys2Proof.Machine

variable {s : State}

/-- A write of the pc wraps it to PCW bits. -/
theorem EvenPointers.setPc (h : EvenPointers s) (a : PAddr) (ha : s.pc.getLsbD 0 = false → a.getLsbD 0 = false) :
    EvenPointers (s.setPc a) := by
  obtain ⟨hpc, hsp, -⟩ := h
  refine ⟨?_, hsp, toNat_wrapPc_lt s.device a⟩
  rw [setPc_pc, getLsbD_wrapPc, ha hpc, Bool.and_false]

/-- A write of W15 drops its bit 0. -/
theorem EvenPointers.setW (h : EvenPointers s) (r : WReg) (v : Word) : EvenPointers (s.setW r v) := by
  obtain ⟨hpc, hsp, hlt⟩ := h
  refine ⟨hpc, ?_, hlt⟩
  by_cases hr : r = 15#4
  · subst hr
    rw [show (s.setW 15#4 v).sp = v &&& 0xFFFE#16 from sp_setSp v s, getLsbD_and_word]
    exact Bool.and_false _
  · rwa [sp_setW_of_ne hr]

/-- W15 is the only register of the data space that the property speaks of. -/
theorem EvenPointers.writeSfr (h : EvenPointers s) (r : Sfr) (v be : Word) : EvenPointers (s.writeSfr r v be) := by
  cases r with
  | w15 => exact h.setW 15#4 _
  | splim | sr | corcon | disicnt | intcon1 | intcon2 | inttreg | rcon | osccon | ifs | iec | ipc => exact h

theorem evenPointers_deviceReset (k : ResetKind) (s : State) : EvenPointers (deviceReset k s) :=
  ⟨BitVec.getLsbD_zero, by rw [sp_deviceReset]; decide, Nat.two_pow_pos _⟩

theorem evenPointers_kept : KeptAcrossWrite EvenPointers EvenPointers :=
  KeptByEffects.acrossWrite
    { setW := EvenPointers.setW
      setTflag := fun h _ => h
      setRamByte := fun h _ _ => h
      setPc := EvenPointers.setPc
      countDown := fun h _ => h }
    EvenPointers.writeSfr

theorem EvenPointers.enterPriority (h : EvenPointers s) (r : Request) : EvenPointers (s.enterPriority r) := by
  cases r <;> exact h

theorem evenPointers_keptInStep : KeptInStep EvenPointers where
  ops := evenPointers_kept
  reset := evenPointers_deviceReset
  tickOver _ h := h
  wake _ h := h
  arbitrate _ _ h := h
  event _ _ _ h ht := (applyEvent_eq ht).symm.imp_left fun e => by rw [e]; exact h
  exec _ _ _ h _ ht := evenPointers_kept.exec h ht (fun _ _ => h) (fun _ _ _ _ => h) fun _ _ _ hu => hu
  entry r _ _ h ht := evenPointers_kept.entry h (fun _ _ hu => hu.enterPriority r) ht

/-- Settles O55: the pc is written through its width and W15 with bit 0 dropped, in each part of a step. -/
theorem stepKeepsEvenPointers : Obligations.StepKeepsEvenPointers :=
  evenPointers_keptInStep.keptByParts.step

end Sys2Proof.Claims
end

section
/-! SUPPORT. Every part of a step keeps INTCON2.DISI equal to `DISICNT is not 0` (10_state.md R43), and the settlement
of StepKeepsDisiConsistent. -/

namespace Sys2Proof.Machine

/-- INTCON2.DISI after a hardware write of it. -/
theorem disiActive_setDisiActive (b : Bool) (s : State) : (s.setDisiActive b).disiActive = b :=
  (getLsbD_setBit _ _ _ _ (by decide)).trans (if_pos rfl)

/-- A write of DISICNT inside a period loads the count and its DISI bit (R153). -/
theorem writeDisicnt_of_period (v be : Word) {s : State} (hd : s.disiActive = true) :
    ∃ n, s.writeDisicnt v be = State.setDisiActive (n != 0#14) { s with disicnt := n } := by
  refine ⟨(replaceBits (s.disicnt.zeroExtend 16) v be).extractLsb' 0 14, ?_⟩
  simp [State.writeDisicnt, State.setDisiActive, hd]

/-- Outside a period it leaves the count 0, and perhaps unspecified (R153). -/
theorem writeDisicnt_of_noPeriod (v be : Word) {s : State} (hd : s.disiActive = false) :
    ∃ unspec, s.writeDisicnt v be = { s with disicnt := 0#14, disicntUnspecified := unspec } := by
  refine ⟨s.disicntUnspecified || (replaceBits (s.disicnt.zeroExtend 16) v be).extractLsb' 0 14 != 0#14, ?_⟩
  simp [State.writeDisicnt, hd]

/-- DISI is read-only for a write of INTCON2 (R43). -/
theorem disiActive_writeIntcon2 (v be : Word) (s : State) : (s.writeIntcon2 v be).disiActive = s.disiActive := by
  show (accessWrite s.intcon2 v 0x801F#16 0x0000#16 be).getLsbD 14 = s.intcon2.getLsbD 14
  rw [getLsbD_accessWrite]
  simp

end Sys2Proof.Machine

namespace Sys2Proof.Claims

open Sys2Proof Sys2Proof.Machine

variable {s : State}

/-- Outside a period with a count of 0 nothing more is asked. -/
theorem disiConsistent_idle (hd : s.disiActive = false) (hn : s.disicnt = 0#14) : DisiConsistent s :=
  ⟨iff_of_false (by rw [hd]; decide) fun h => h hn, fun _ => hd, fun _ => hd⟩

/-- In Run mode a count may be loaded together with its DISI bit, unless DISICNT is in its unspecified condition. -/
theorem disiConsistent_load (n : BitVec 14) (hunspec : s.disicntUnspecified = false) (hmode : s.mode = .run) :
    DisiConsistent (State.setDisiActive (n != 0#14) { s with disicnt := n }) := by
  refine ⟨?_, fun hu => absurd (hunspec.symm.trans hu) (by decide), fun hm => absurd hmode hm⟩
  rw [disiActive_setDisiActive, bne_iff_ne]
  rfl

/-- The countdown ends the period exactly when it makes the count 0 (40_interrupt_instructions.md R152). -/
theorem DisiConsistent.countDown (h : DisiConsistent s) (c : Nat) : DisiConsistent (s.countDown c) := by
  obtain ⟨hiff, hunspec, hmode⟩ := h
  have hoff : s.disiActive = false → (s.countDown c).disiActive = false := by
    intro hd
    rw [disiActive_countDown, hd, ite_self]
  have hcount : (s.countDown c).disicnt ≠ 0#14 ↔ c < s.disicnt.toNat := by
    have hlt := s.disicnt.isLt
    rw [countDown_disicnt, ne_eq, ← BitVec.toNat_inj, BitVec.toNat_ofNat, BitVec.toNat_ofNat]
    omega
  refine ⟨?_, fun hu => hoff (hunspec hu), fun hm => hoff (hmode hm)⟩
  rw [hcount, disiActive_countDown]
  by_cases h0 : s.disicnt = 0#14
  · simp [h0, hiff]
  · by_cases hle : s.disicnt.toNat ≤ c
    · simp [h0, hle]
    · simp [h0, hle, hiff, Nat.lt_of_not_le hle]

theorem DisiConsistent.writeDisicnt (h : DisiConsistent s) (v be : Word) : DisiConsistent (s.writeDisicnt v be) := by
  obtain ⟨-, hunspec, hmode⟩ := h
  cases hd : s.disiActive
  · obtain ⟨unspec, e⟩ := writeDisicnt_of_noPeriod v be hd
    rw [e]
    exact disiConsistent_idle hd rfl
  · obtain ⟨n, e⟩ := writeDisicnt_of_period v be hd
    rw [e]
    have hon : s.disiActive ≠ false := by rw [hd]; decide
    exact disiConsistent_load n (Bool.eq_false_of_not_eq_true fun hu => hon (hunspec hu))
      (Decidable.byContradiction fun hm => hon (hmode hm))

theorem DisiConsistent.writeSfr (h : DisiConsistent s) (r : Sfr) (v be : Word) :
    DisiConsistent (s.writeSfr r v be) := by
  cases r with
  | disicnt => exact h.writeDisicnt v be
  | intcon2 =>
    unfold DisiConsistent
    rw [show (s.writeSfr .intcon2 v be).disiActive = s.disiActive from disiActive_writeIntcon2 v be s]
    exact h
  | w15 | splim | sr | corcon | intcon1 | inttreg | rcon | osccon | ifs | iec | ipc => exact h

theorem disiConsistent_deviceReset (k : ResetKind) (s : State) : DisiConsistent (deviceReset k s) :=
  disiConsistent_idle BitVec.getLsbD_zero rfl

theorem disiConsistent_kept : KeptAcrossWrite DisiConsistent DisiConsistent :=
  KeptByEffects.acrossWrite
    { setW := fun h _ _ => h
      setTflag := fun h _ => h
      setRamByte := fun h _ _ => h
      setPc := fun h _ _ => h
      countDown := DisiConsistent.countDown }
    DisiConsistent.writeSfr

/-- In Run mode the property asks nothing of the mode. -/
theorem DisiConsistent.wake (h : DisiConsistent s) : DisiConsistent { s with mode := .run } := by
  obtain ⟨hiff, hunspec, -⟩ := h
  exact ⟨hiff, hunspec, fun hm => absurd rfl hm⟩

/-- The CPU falls asleep outside a period only (41_referenced_instructions.md R171). -/
theorem DisiConsistent.withMode (h : DisiConsistent s) (hd : s.disiActive = false) (mode : PowerMode) :
    DisiConsistent { s with mode := mode } := by
  obtain ⟨hiff, hunspec, -⟩ := h
  exact ⟨hiff, hunspec, fun _ => hd⟩

theorem DisiConsistent.enterPriority (h : DisiConsistent s) (r : Request) : DisiConsistent (s.enterPriority r) := by
  cases r <;> exact h

theorem disiConsistent_keptInStep : KeptInStep DisiConsistent where
  ops := disiConsistent_kept
  reset := disiConsistent_deviceReset
  tickOver _ h := h
  wake _ h := h.wake
  arbitrate _ _ h := h
  event _ _ _ h ht := (applyEvent_eq ht).symm.imp_left fun e => by rw [e]; exact h
  exec _ s _ h hm ht := disiConsistent_kept.exec h ht
    (fun lit _ => disiConsistent_load (s := { s with disicntUnspecified := false }) lit rfl hm)
    (fun _ mode _ hd => h.withMode hd mode) fun _ _ _ hu => hu
  entry r _ _ h ht := disiConsistent_kept.entry h (fun _ _ hu => (hu.enterPriority r).wake) ht

/-- Settles O57: DISICNT and INTCON2.DISI are written together in each part of a step. -/
theorem stepKeepsDisiConsistent : Obligations.StepKeepsDisiConsistent :=
  disiConsistent_keptInStep.keptByParts.step

end Sys2Proof.Claims
end

section
/-! SUPPORT. What a software write of each control register stores, bit by bit, and the settlements of
WriteStatusRegisters, WriteIntcon1, WriteIntcon2 and WriteSplimInttregRcon. -/

namespace Sys2Proof.Machine

/-! ### Bytes of a word -/

/-- A write of the low byte keeps the high one. -/
theorem replaceBits_low (old new : Word) :
    replaceBits old new 0x00FF#16 = old.extractLsb' 8 8 ++ new.extractLsb' 0 8 := by
  apply word_ext
  intro i hi
  rw [getLsbD_replaceBits, (by decide : ∀ i < 16, (0x00FF#16).getLsbD i = decide (i < 8)) i hi]
  show _ = (old.extractLsb' 8 8 ++ new.extractLsb' 0 8 : BitVec (8 + 8)).getLsbD i
  rw [BitVec.getLsbD_append]
  by_cases h : i < 8
  · simp [h]
  · simp [h, show i - 8 < 8 by omega, show 8 + (i - 8) = i by omega]

/-- A write of the high byte keeps the low one. -/
theorem replaceBits_high (old new : Word) :
    replaceBits old new 0xFF00#16 = new.extractLsb' 8 8 ++ old.extractLsb' 0 8 := by
  rw [← replaceBits_low]
  apply word_ext
  intro i hi
  rw [getLsbD_replaceBits, getLsbD_replaceBits,
    (by decide : ∀ i < 16, (0xFF00#16).getLsbD i = !(0x00FF#16).getLsbD i) i hi]
  cases (0x00FF#16).getLsbD i <;> rfl

/-! ### INTCON1 -/

/-- Every bit of INTCON1 but bit 0 takes the value written, and MATHERR stays where its clear is refused (61_traps.md
R292). -/
theorem getLsbD_writeIntcon1 (s : State) (v be : Word) (n : Nat) (hn : n < 16) :
    (s.writeIntcon1 v be).intcon1.getLsbD n =
      if n = 0 ∨ be.getLsbD n = false then s.intcon1.getLsbD n
      else v.getLsbD n || (decide (n = 4) && s.tflag .mathError && s.mathClearBlocked) := by
  have hstored : (accessWrite s.intcon1 v 0xFFFE#16 0x0000#16 be).getLsbD n
      = if n = 0 ∨ be.getLsbD n = false then s.intcon1.getLsbD n else v.getLsbD n := by
    rw [getLsbD_accessWrite, (by decide : ∀ n < 16, (0xFFFE#16).getLsbD n = decide (n ≠ 0)) n hn]
    cases be.getLsbD n <;> by_cases h0 : n = 0 <;> simp [h0]
  show (if s.mathClearBlocked && s.tflag .mathError then
    setBit (accessWrite s.intcon1 v 0xFFFE#16 0x0000#16 be) 4 true
    else accessWrite s.intcon1 v 0xFFFE#16 0x0000#16 be).getLsbD n = _
  split
  · next hblocked =>
    obtain ⟨hblock, hmath⟩ := Bool.and_eq_true_iff.mp hblocked
    rw [getLsbD_setBit _ _ _ _ (by decide), hstored, hblock, hmath]
    by_cases h4 : n = 4
    · subst h4
      simp [show s.intcon1.getLsbD 4 = true from hmath]
    · simp [h4]
  · next hfree =>
    rw [hstored, Bool.and_assoc, Bool.and_comm (s.tflag _), Bool.eq_false_of_not_eq_true hfree, Bool.and_false,
      Bool.or_false]

/-! ### INTCON2 -/

/-- A pin whose edge bit the write changes and whose draw says so has its flag set (60_exceptions.md R206). -/
def State.glitches (new : Word) (s : State) (k : Fin 5) : Bool :=
  s.edgePolarity k != new.getLsbD k.val && Config.freeGlitch s.tick k.val

/-- The sources of INT0 to INT4 (R206). -/
theorem extIrq_eq : ∀ k : Fin 5, extIrq k = ([0, 20, 29, 53, 54] : List Irq).getD k.val 0 := by decide

theorem glitch_eq (new : Word) (s : State) (f : Vector Word 5) (k : Fin 5) :
    s.glitch new f k = if s.glitches new k then withFlag s.device (extIrq k) f else f := rfl

/-- A source has its own register and bit (11_interrupt_registers.md R71). -/
theorem irq_eq_iff (i j : Irq) : i.reg = j.reg ∧ i.bit = j.bit ↔ i = j := by
  constructor
  · rintro ⟨hreg, hbit⟩
    have hdiv : i.val / 16 = j.val / 16 := congrArg Fin.val hreg
    have hmod : i.val % 16 = j.val % 16 := hbit
    exact Fin.ext (by omega)
  · rintro rfl
    exact ⟨rfl, rfl⟩

/-- The flag of a source after the glitches of some pins: set before, or by a glitch of its own pin. -/
theorem getLsbD_glitches (new : Word) (s : State) (j : Irq) (ks : List (Fin 5)) (f : Vector Word 5) :
    ((ks.foldl (s.glitch new) f).get j.reg).getLsbD j.bit
      = ((f.get j.reg).getLsbD j.bit
        || ks.any fun k => s.glitches new k && (hasSource s.device j && decide (j = extIrq k))) := by
  induction ks generalizing f with
  | nil => simp
  | cons k ks ih =>
    rw [List.foldl_cons, ih, List.any_cons, ← Bool.or_assoc, glitch_eq]
    congr 1
    cases s.glitches new k
    · simp
    · rw [if_pos rfl, getLsbD_withFlag, Bool.and_assoc, ← Bool.decide_and]
      simp only [irq_eq_iff]
      by_cases h : j = extIrq k
      · subst h; simp
      · simp [h]

/-- The flag of a source after a write of INTCON2. -/
theorem flag_writeIntcon2 (s : State) (v be : Word) (j : Irq) :
    (s.writeIntcon2 v be).flag j = (s.flag j || (hasSource s.device j && ([0, 1, 2, 3, 4] : List (Fin 5)).any fun k =>
      s.glitches (s.writeIntcon2 v be).intcon2 k && decide (j = extIrq k))) := by
  show (hasSource s.device j
    && (([0, 1, 2, 3, 4].foldl (s.glitch (s.writeIntcon2 v be).intcon2) s.ifs).get j.reg).getLsbD j.bit) = _
  rw [getLsbD_glitches]
  unfold State.flag
  cases hasSource s.device j <;> simp

/-! ### SPLIM, RCON and OSCCON -/

/-- A word write of SPLIM arms the overflow check (10_state.md R25). -/
theorem writeSplim_word (s : State) (v : Word) :
    s.writeSfr .splim v 0xFFFF#16 = { s with splim := v, splimWritten := true } := by
  simp [State.writeSfr, State.writeSplim, replaceBits_allOnes]

/-- Any other write of SPLIM arms nothing (log 35). -/
theorem writeSplim_byte (s : State) (v : Word) {be : Word} (hbe : be ≠ 0xFFFF#16) :
    s.writeSfr .splim v be = { s with splim := replaceBits s.splim v be } := by
  simp [State.writeSfr, State.writeSplim, hbe]

/-- TRAPR after a write of RCON (70_reset_and_hazards.md R324). -/
theorem trapr_writeRcon (s : State) (v be : Word) : (s.writeSfr .rcon v be).trapr
    = if be.getLsbD 15 then v.getLsbD 15 && (s.trapr || Config.freeTrapr s.tick) else s.trapr := rfl

/-- A write of OSCCON that does not cover CF changes nothing (10_state.md R48). -/
theorem writeOsccon_uncovered (s : State) (v : Word) {be : Word} (hbe : be.getLsbD 3 = false) :
    s.writeSfr .osccon v be = s := by
  show { s with cf := if be.getLsbD 3 then Config.freeCf s.tick else s.cf } = s
  rw [hbe]
  rfl

end Sys2Proof.Machine

namespace Sys2Proof.Claims

open Sys2Proof Sys2Proof.Machine

/-- A write by access code treats each bit by its code: R/W where `rw` has it, R/C where `rc` has it, else read-only
(00_scope.md R9). -/
theorem writtenBy_accessWrite {access : Nat → Access} {rw rc : Word} (old v be : Word)
    (hcodes : ∀ i < 16, (rw.getLsbD i && rc.getLsbD i) = false
      ∧ access i = if rw.getLsbD i then .rw else if rc.getLsbD i then .rc else .ro) :
    WrittenBy access old v be (accessWrite old v rw rc be) := by
  intro i hi
  obtain ⟨hdisjoint, hcode⟩ := hcodes i hi
  rw [getLsbD_accessWrite, hcode]
  congr 1
  cases hrw : rw.getLsbD i <;> cases hrc : rc.getLsbD i <;> simp_all [Access.apply]

/-- The access codes of SR are its R/W mask and its clear-only mask (10_state.md R28, R30). -/
theorem srAccess_eq (nstdis : Bool) : ∀ i < 16, ((srWritable nstdis).getLsbD i && (0x3400#16).getLsbD i) = false
    ∧ srAccess nstdis i
      = if (srWritable nstdis).getLsbD i then .rw else if (0x3400#16).getLsbD i then .rc else .ro := by
  cases nstdis <;> decide

/-- Settles O41: both registers are written by access code. -/
theorem writeStatusRegisters : Obligations.WriteStatusRegisters := by
  intro s v be
  exact ⟨writtenBy_accessWrite _ _ _ (srAccess_eq s.nstdis), rfl, writtenBy_accessWrite _ _ _ (by decide), rfl⟩

/-- Settles O42: INTCON1 bit by bit. -/
theorem writeIntcon1 : Obligations.WriteIntcon1 := by
  intro s v be
  exact ⟨rfl, getLsbD_writeIntcon1 s v be⟩

/-- Settles O43: INTCON2 by access code, and each flag by the glitches of its own pin. -/
theorem writeIntcon2 : Obligations.WriteIntcon2 := by
  intro s v be j
  have hflag := flag_writeIntcon2 s v be j
  refine ⟨writtenBy_accessWrite _ _ _ (by decide), rfl, fun h => ?_, fun h => ?_⟩
  · exact hflag.trans (by rw [h, Bool.true_or])
  · rcases Bool.or_eq_true_iff.mp (hflag.symm.trans h) with h | h
    · exact .inl h
    · right
      obtain ⟨-, hany⟩ := Bool.and_eq_true_iff.mp h
      obtain ⟨k, -, hk⟩ := List.any_eq_true.mp hany
      simp only [State.glitches, Bool.and_eq_true, bne_iff_ne, decide_eq_true_eq] at hk
      obtain ⟨⟨hedge, -⟩, rfl⟩ := hk
      exact ⟨k, extIrq_eq k, hedge⟩

/-- A write of W15 at its data address is a load of the merged word (61_traps.md R281). -/
theorem loaded_writeSp (s : State) (v be : Word) : Loaded s 15#4 (replaceBits s.sp v be) (s.writeSfr .w15 v be) := by
  rcases loadW_eq 15#4 (replaceBits s.sp v be) s with e | ⟨-, hlow, e⟩
  · exact .inl e
  · exact .inr ⟨rfl, hlow, e⟩

/-- Settles O46: SPLIM, RCON and OSCCON by the bits that the access covers, W15 as a load. -/
theorem writeSplimInttregRcon : Obligations.WriteSplimInttregRcon := by
  intro s v be
  have hword := loaded_writeSp s v 0xFFFF#16
  have hlow := loaded_writeSp s v 0x00FF#16
  have hhigh := loaded_writeSp s v 0xFF00#16
  rw [replaceBits_allOnes] at hword
  rw [replaceBits_low] at hlow
  rw [replaceBits_high] at hhigh
  refine ⟨writeSplim_word s v, ?_, ?_, rfl, rfl, ?_, ?_, hword, hlow, hhigh, rfl, ?_⟩
  · rw [← replaceBits_low]; exact writeSplim_byte s v (by decide)
  · rw [← replaceBits_high]; exact writeSplim_byte s v (by decide)
  · intro hbe hv
    rw [trapr_writeRcon, hbe, hv, if_pos rfl, Bool.false_and]
  · rintro htrapr (hbe | hv)
    · rw [trapr_writeRcon, hbe, htrapr]; rfl
    · rw [trapr_writeRcon, hv, htrapr]; exact ite_self _
  · exact writeOsccon_uncovered s v

end Sys2Proof.Claims
end

section
/-! SUPPORT. What no instruction does to the priority level and to the state that software cannot write (10_state.md R28
to R34, R45), and the settlements of SoftwareAndPriorityLevel and ExecKeepsReadOnlyState. -/

namespace Sys2Proof.Machine

/-! ### The priority level -/

/-- A software write cannot set IPL3 (10_state.md R34). -/
theorem ipl3_of_writeCorcon {s : State} {v be : Word} (h : (s.writeCorcon v be).ipl3 = true) : s.ipl3 = true := by
  have hbit : (s.writeCorcon v be).ipl3
      = if be.getLsbD 3 then s.corcon.getLsbD 3 && v.getLsbD 3 else s.corcon.getLsbD 3 := by
    show (accessWrite s.corcon v 0x18F7#16 0x0008#16 be).getLsbD 3 = _
    rw [getLsbD_accessWrite, show (0x18F7#16).getLsbD 3 = false by decide, show (0x0008#16).getLsbD 3 = true by decide]
    simp
  rw [hbit] at h
  split at h
  · exact Bool.and_elim_left h
  · exact h

/-- A software write cannot change IPL<2:0> while NSTDIS is 1 (R30). -/
theorem ipl_writeSr {s : State} (v be : Word) (h : s.nstdis = true) : (s.writeSr v be).ipl = s.ipl := by
  apply BitVec.eq_of_getLsbD_eq
  intro i hi
  show ((accessWrite s.sr v (srWritable s.nstdis) 0x3400#16 be).extractLsb' 5 3).getLsbD i
    = (s.sr.extractLsb' 5 3).getLsbD i
  rw [BitVec.getLsbD_extractLsb', BitVec.getLsbD_extractLsb', getLsbD_accessWrite, h,
    (by decide : ∀ i < 3, (srWritable true).getLsbD (5 + i) = false) i hi,
    (by decide : ∀ i < 3, (0x3400#16).getLsbD (5 + i) = false) i hi]
  simp

/-- The status bits of the traps are not NSTDIS. -/
theorem nstdis_setTflag (t : Trap) (s : State) : (s.setTflag t).nstdis = s.nstdis := by
  cases t <;> exact getLsbD_setBit _ _ _ _ (by decide)

/-- A Reset clears IPL3 (R53). -/
theorem ipl3_deviceReset (k : ResetKind) (s : State) : (deviceReset k s).ipl3 = false :=
  (by decide : (0x0020#16).getLsbD 3 = false)

/-- The level and NSTDIS are those of `s`. -/
def LevelKept (s t : State) : Prop := t.ipl3 = s.ipl3 ∧ t.ipl = s.ipl ∧ t.nstdis = s.nstdis

/-- IPL3 is set only if it is in `s`, and IPL<2:0> is that of `s` if NSTDIS is 1 there. -/
def LevelGuarded (s t : State) : Prop := (t.ipl3 = true → s.ipl3 = true) ∧ (s.nstdis = true → t.ipl = s.ipl)

theorem LevelKept.guarded {s t : State} (h : LevelKept s t) : LevelGuarded s t := by
  obtain ⟨h3, hipl, -⟩ := h
  exact ⟨fun hset => h3.symm.trans hset, fun _ => hipl⟩

/-- One software write of a state with the level and the NSTDIS of `s`; a second one could follow a clear of NSTDIS. -/
theorem LevelKept.writeSfr {s t : State} (h : LevelKept s t) (r : Sfr) (v be : Word) :
    LevelGuarded s (t.writeSfr r v be) := by
  obtain ⟨h3, hipl, hnstdis⟩ := h
  have hset : t.ipl3 = true → s.ipl3 = true := fun hset => h3.symm.trans hset
  cases r with
  | sr => exact ⟨hset, fun hn => (ipl_writeSr v be (hnstdis.trans hn)).trans hipl⟩
  | corcon => exact ⟨fun h => hset (ipl3_of_writeCorcon h), fun _ => hipl⟩
  | w15 | splim | disicnt | intcon1 | intcon2 | inttreg | rcon | osccon | ifs | iec | ipc =>
    exact ⟨hset, fun _ => hipl⟩

theorem levelKept_acrossWrite (s : State) : KeptAcrossWrite (LevelKept s) (LevelGuarded s) where
  before :=
    { setW := fun h _ _ => h
      setTflag := fun ⟨h3, hipl, hnstdis⟩ t => ⟨h3, hipl, (nstdis_setTflag t _).trans hnstdis⟩ }
  after :=
    { setW := fun h _ _ => h
      setTflag := fun h _ => h
      setRamByte := fun h _ _ => h
      setPc := fun h _ _ => h
      countDown := fun h _ => h }
  unwritten := LevelKept.guarded
  write := LevelKept.writeSfr

/-! ### What software cannot write -/

/-- A software write keeps the bits that it can neither store nor clear. -/
theorem accessWrite_and_kept {rw rc m : Word} (old v be : Word) (hrw : rw &&& m = 0#16) (hrc : rc &&& m = 0#16) :
    accessWrite old v rw rc be &&& m = old &&& m := by
  apply word_ext
  intro i hi
  rw [getLsbD_and_word, getLsbD_and_word, getLsbD_accessWrite]
  cases hm : m.getLsbD i
  · rw [Bool.and_false, Bool.and_false]
  · rw [(and_eq_zero_iff rw m).mp hrw i hi hm, (and_eq_zero_iff rc m).mp hrc i hi hm]
    simp

/-- A hardware write of some bits keeps those outside its mask. -/
theorem replaceBits_and_kept {mask m : Word} (old new : Word) (hd : mask &&& m = 0#16) :
    replaceBits old new mask &&& m = old &&& m := by
  apply word_ext
  intro i hi
  rw [getLsbD_and_word, getLsbD_and_word, getLsbD_replaceBits]
  cases hm : m.getLsbD i
  · rw [Bool.and_false, Bool.and_false]
  · rw [(and_eq_zero_iff mask m).mp hd i hi hm]
    rfl

/-- What software cannot write is in `t` as in `s`: INTTREG, the accumulators, OA, OB, OAB, DA and DC of SR, DL of
CORCON, the pins, program memory and the device. -/
def ReadOnlyKept (s t : State) : Prop :=
  t.inttreg = s.inttreg ∧ t.accA = s.accA ∧ t.accB = s.accB ∧ t.sr &&& 0xCB00#16 = s.sr &&& 0xCB00#16
    ∧ t.corcon &&& 0x0700#16 = s.corcon &&& 0x0700#16 ∧ t.pins = s.pins ∧ t.prog = s.prog ∧ t.device = s.device

/-- The access codes of SR and CORCON leave those bits out (10_state.md R28, R32). -/
theorem ReadOnlyKept.writeSfr {s t : State} (h : ReadOnlyKept s t) (r : Sfr) (v be : Word) :
    ReadOnlyKept s (t.writeSfr r v be) := by
  obtain ⟨hinttreg, haccA, haccB, hsr, hcorcon, hrest⟩ := h
  cases r with
  | sr =>
    have hcodes : srWritable t.nstdis &&& 0xCB00#16 = 0#16 := by cases t.nstdis <;> decide
    exact ⟨hinttreg, haccA, haccB, (accessWrite_and_kept _ _ _ hcodes (by decide)).trans hsr, hcorcon, hrest⟩
  | corcon =>
    exact ⟨hinttreg, haccA, haccB, hsr, (accessWrite_and_kept _ _ _ (by decide) (by decide)).trans hcorcon, hrest⟩
  | w15 | splim | disicnt | intcon1 | intcon2 | inttreg | rcon | osccon | ifs | iec | ipc =>
    exact ⟨hinttreg, haccA, haccB, hsr, hcorcon, hrest⟩

/-- RETFIE restores SRL and IPL3 only (40_interrupt_instructions.md R154). -/
theorem ReadOnlyKept.restoreStatus {s t : State} (h : ReadOnlyKept s t) (hi : Word) :
    ReadOnlyKept s (t.restoreStatus hi) := by
  obtain ⟨hinttreg, haccA, haccB, hsr, hcorcon, hrest⟩ := h
  exact ⟨hinttreg, haccA, haccB, (replaceBits_and_kept _ _ (by decide)).trans hsr,
    (replaceBits_and_kept _ _ (by decide)).trans hcorcon, hrest⟩

theorem readOnlyKept_acrossWrite (s : State) : KeptAcrossWrite (ReadOnlyKept s) (ReadOnlyKept s) :=
  KeptByEffects.acrossWrite
    { setW := fun h _ _ => h
      setTflag := fun h _ => h
      setRamByte := fun h _ _ => h
      setPc := fun h _ _ => h
      countDown := fun h _ => h }
    ReadOnlyKept.writeSfr

/-- A Reset is seen in the count of Resets. -/
theorem IsReset.epoch_ne {s t : State} (h : IsReset s t) : t.epoch ≠ s.epoch := by
  obtain ⟨k, rfl⟩ := h
  exact Nat.succ_ne_self s.epoch

end Sys2Proof.Machine

namespace Sys2Proof.Claims

open Sys2Proof Sys2Proof.Machine

/-- Settles O49: an instruction has one software write, which the access codes of SR and CORCON filter, and a Reset
clears IPL3. -/
theorem softwareAndPriorityLevel : Obligations.SoftwareAndPriorityLevel := by
  intro i s t hi ht
  have hs : LevelKept s s := ⟨rfl, rfl, rfl⟩
  rcases (levelKept_acrossWrite s).exec hs ht (fun _ _ => hs.guarded) (fun _ _ _ _ => hs.guarded)
    (fun hretfie => absurd hretfie hi) with h | h
  · obtain ⟨h3, hipl⟩ := h
    exact ⟨h3, fun hn _ => hipl hn⟩
  · refine ⟨fun h3 => ?_, fun _ he => absurd he h.epoch_ne⟩
    obtain ⟨k, rfl⟩ := h
    exact absurd h3 (by rw [ipl3_deviceReset]; decide)

/-- Settles O50: no operation of an instruction writes one of these bits. -/
theorem execKeepsReadOnlyState : Obligations.ExecKeepsReadOnlyState := by
  intro i s t ht he
  have hs : ReadOnlyKept s s := ⟨rfl, rfl, rfl, rfl, rfl, rfl, rfl, rfl⟩
  rcases (readOnlyKept_acrossWrite s).exec hs ht (fun _ _ => hs) (fun _ _ _ _ => hs)
    (fun _ _ hi hu => hu.restoreStatus hi) with h | h
  · exact h
  · exact absurd he h.epoch_ne

end Sys2Proof.Claims
end

section
/-! SUPPORT. The registers after a device Reset and in the state after reset, what follows of them for the priorities
and the arbitration (10_state.md R53, R54), and the settlements of ResetClearsPc, ResetValues and ResetHasInvariants. -/

namespace Sys2Proof.Machine

/-- The registers that the spec gives a value after every kind of Reset hold it. -/
structure HasResetValues (t : State) : Prop where
  pc : t.pc = 0#23
  sp : t.sp = 0x0800#16
  splimWritten : t.splimWritten = false
  sr : t.sr = 0#16
  corcon : t.corcon = 0x0020#16
  disicnt : t.disicnt = 0#14
  intcon1 : t.intcon1 = 0#16
  intcon2 : t.intcon2 = 0#16
  inttreg : t.inttreg = 0#16
  ifs : t.ifs = Vector.replicate 5 0#16
  iec : t.iec = Vector.replicate 5 0#16
  ipc : t.ipc = Vector.ofFn (resetIpc t.device)
  mode : t.mode = .run
  skid : t.skid = 0

theorem hasResetValues_deviceReset (k : ResetKind) (s : State) : HasResetValues (deviceReset k s) :=
  ⟨rfl, sp_deviceReset k s, rfl, rfl, rfl, rfl, rfl, rfl, rfl, rfl, rfl, rfl, rfl, rfl⟩

theorem hasResetValues_reset : HasResetValues State.reset :=
  ⟨rfl, rfl, rfl, rfl, rfl, rfl, rfl, rfl, rfl, rfl, rfl, rfl, rfl, rfl⟩

theorem get_zeros {n : Nat} (k : Fin n) : (Vector.replicate n 0#16).get k = 0#16 := by
  rw [Vector.get_eq_getElem, Vector.getElem_replicate]

/-- The reset priority of every source that the device has is 4 (11_interrupt_registers.md R90). -/
theorem extractLsb'_resetIpc (d : Device) (i : Irq) (h : hasSource d i = true) :
    (resetIpc d i.ipcReg).extractLsb' i.ipcLow 3 = 4#3 := by
  have hnibble : ∀ q < 4, ∀ b < 3, (0x4444#16).getLsbD (4 * q + b) = (4#3).getLsbD b := by decide
  apply BitVec.eq_of_getLsbD_eq
  intro b hb
  unfold resetIpc
  rw [BitVec.getLsbD_extractLsb', getLsbD_and_word, getLsbD_ipcMask_field d i b hb, h, Bool.and_true,
    show i.ipcLow = 4 * (i.val % 4) from rfl, hnibble _ (Nat.mod_lt _ (by decide)) b hb, decide_eq_true hb,
    Bool.true_and]

/-- No source with a clear flag is eligible, and with no eligible request none wins (60_exceptions.md R212, R214). -/
theorem winner_eq_none {s : State} (hflag : ∀ i, s.flag i = false) (htflag : ∀ t, s.tflag t = false) :
    s.winner = none := by
  have hirq : ∀ is : List Irq, is.foldl s.better none = none := by
    intro is
    induction is with
    | nil => rfl
    | cons i is ih =>
      rw [List.foldl_cons]
      have hnot : s.better none i = none := by simp [State.better, State.eligible, hflag i]
      rw [hnot, ih]
  have htrap : s.trapWinner = none := by
    unfold State.trapWinner
    rw [List.find?_eq_none]
    intro t _
    simp [State.trapEligible, htflag t]
  unfold State.winner State.irqWinner
  rw [htrap, hirq]

section
variable {t : State}

theorem HasResetValues.prio (h : HasResetValues t) (i : Irq) :
    t.prio i = if hasSource t.device i then 4#3 else 0#3 := by
  unfold State.prio
  split
  · next hs => rw [h.ipc, Vector.get_eq_getElem, Vector.getElem_ofFn]; exact extractLsb'_resetIpc _ i hs
  · rfl

theorem HasResetValues.cpuIpl (h : HasResetValues t) : t.cpuIpl = 0#4 := by
  unfold State.cpuIpl State.ipl3 State.ipl
  rw [h.corcon, h.sr]
  decide

theorem HasResetValues.winner (h : HasResetValues t) : t.winner = none := by
  apply winner_eq_none
  · intro i
    unfold State.flag
    rw [h.ifs, get_zeros, BitVec.getLsbD_zero, Bool.and_false]
  · intro u
    unfold State.tflag
    rw [h.intcon1, BitVec.getLsbD_zero]

end

end Sys2Proof.Machine

namespace Sys2Proof.Claims

open Sys2Proof Sys2Proof.Machine

/-- Settles O51: the pc is among the reset values. -/
theorem resetClearsPc : Obligations.ResetClearsPc :=
  ⟨hasResetValues_reset.pc, fun k s => (hasResetValues_deviceReset k s).pc⟩

/-- Settles O52: both states hold the reset values, and the rest follows of those. -/
theorem resetValues : Obligations.ResetValues := by
  intro k s t ht
  have h : HasResetValues t := by
    rcases ht with rfl | rfl
    · exact hasResetValues_deviceReset k s
    · exact hasResetValues_reset
  refine ⟨h.pc, h.sp, h.splimWritten, h.sr, h.corcon, h.disicnt, h.intcon1, h.intcon2, h.inttreg,
    fun m => ⟨?_, ?_⟩, h.prio, h.mode, h.skid, h.cpuIpl, h.winner, ⟨rfl, rfl⟩, ?_⟩
  · rw [h.ifs, get_zeros]
  · rw [h.iec, get_zeros]
  · rintro rfl; rfl

/-- The reset values have no unimplemented bit. -/
theorem reservedZero_of_resetValues {t : State} (h : HasResetValues t) : ReservedZero t := by
  unfold ReservedZero
  rw [h.corcon, h.intcon1, h.intcon2, h.inttreg, h.ifs, h.iec, h.ipc]
  exact ⟨by decide, BitVec.zero_and, BitVec.zero_and, BitVec.zero_and, withinMasks_zero _, withinMasks_zero _,
    withinMasks_resetIpc _⟩

/-- Settles O59: three invariants follow of the reset values, and memory and program are empty. -/
theorem resetHasInvariants : Obligations.ResetHasInvariants := by
  have h := hasResetValues_reset
  refine ⟨⟨?_, ?_, ?_⟩, ⟨rfl, rfl⟩, disiConsistent_idle ?_ h.disicnt, reservedZero_of_resetValues h⟩
  · rw [h.pc]; decide
  · rw [h.sp]; decide
  · rw [h.pc]; exact Nat.two_pow_pos _
  · unfold State.disiActive
    rw [h.intcon2, BitVec.getLsbD_zero]

end Sys2Proof.Claims
end

section
/-! SUPPORT. Which bits the registers of the sources have, what a software write stores in them (11_interrupt_registers.md
R71 to R91), and the settlements of WriteSourceRegisters, ResetPriorities and ReservedSourcesHaveNoBits. -/

namespace Sys2Proof.Machine

/-- Table 6-1 names every source but the reserved rows (11_interrupt_registers.md R72, R74). -/
theorem getLsbD_namedMask :
    ∀ i : Irq, (namedMask i.reg).getLsbD i.bit = !([15, 18, 45, 62, 67] : List Nat).contains i.val := by decide

/-- SOURCES holds source `i` at bit `i`, which its register has at the source's own bit (R71, R73). -/
theorem getLsbD_sources_slice (d : Device) (i : Irq) :
    (d.sources.extractLsb' (16 * i.reg.val) 16).getLsbD i.bit = d.sources.getLsbD i.val := by
  have hbit : i.bit < 16 := Nat.mod_lt _ (by decide)
  have hnumber : 16 * i.reg.val + i.bit = i.val := Nat.div_add_mod i.val 16
  rw [BitVec.getLsbD_extractLsb', hnumber, decide_eq_true hbit, Bool.true_and]

/-- Priority 4 in every field of Table 6-1; the fields left 0 are those of its reserved rows (R72, R90). -/
theorem resetIpc_defaultDevice : Vector.ofFn (resetIpc defaultDevice)
    = #v[0x4444#16, 0x4444#16, 0x4444#16, 0x0444#16, 0x4044#16, 0x4444#16, 0x4444#16, 0x4444#16, 0x4444#16,
      0x4444#16, 0x4444#16, 0x4404#16, 0x4444#16, 0x4444#16, 0x4444#16, 0x4044#16, 0x0444#16, 0x4444#16] := by
  decide

end Sys2Proof.Machine

namespace Sys2Proof.Claims

open Sys2Proof Sys2Proof.Machine

/-- A write through a mask with no clear-only bit: the bits of the mask are R/W, the others read-only (00_scope.md R9). -/
theorem writtenBy_mask (old v mask be : Word) :
    WrittenBy (fun i => if mask.getLsbD i then .rw else .ro) old v be (accessWrite old v mask 0x0000#16 be) :=
  writtenBy_accessWrite old v be fun i _ => by simp

/-- A write of one register of a bank stores its masked bits and leaves the other registers of the bank. -/
theorem writtenBy_set {n : Nat} (bank : Vector Word n) (k : Fin n) (v mask be : Word) :
    let written := bank.set k.val (accessWrite (bank.get k) v mask 0x0000#16 be) k.isLt
    WrittenBy (fun i => if mask.getLsbD i then .rw else .ro) (bank.get k) v be (written.get k)
      ∧ ∀ m : Fin n, m ≠ k → written.get m = bank.get m := by
  intro written
  constructor
  · rw [vget_set_same _ _ _ _ _ rfl]
    exact writtenBy_mask _ _ _ _
  · intro m hm
    exact vget_set_other _ _ _ _ _ fun e => hm (Fin.ext e)

/-- Settles O44: each register is one of a bank, written through the mask of the device's sources. -/
theorem writeSourceRegisters : Obligations.WriteSourceRegisters := by
  intro s k j v be
  obtain ⟨hifs, hifsRest⟩ := writtenBy_set s.ifs k v (sourceMask s.device k) be
  obtain ⟨hiec, hiecRest⟩ := writtenBy_set s.iec k v (sourceMask s.device k) be
  obtain ⟨hipc, hipcRest⟩ := writtenBy_set s.ipc j v (ipcMask s.device j) be
  exact ⟨⟨hifs, hifsRest, rfl⟩, ⟨hiec, hiecRest, rfl⟩, ⟨hipc, hipcRest, rfl⟩⟩

/-- Settles O53: a Reset keeps the device, and its sources give the priorities. -/
theorem resetPriorities : Obligations.ResetPriorities := by
  intro k s t ht
  have hreset : HasResetValues t ∧ t.device = defaultDevice := by
    rcases ht with rfl | ⟨hdevice, rfl⟩
    · exact ⟨hasResetValues_reset, rfl⟩
    · exact ⟨hasResetValues_deviceReset k s, hdevice⟩
  obtain ⟨hvalues, hdevice⟩ := hreset
  rw [hvalues.ipc, hdevice, resetIpc_defaultDevice]

/-- Settles O54: the bit of a source is that of Table 6-1 and that of SOURCES. -/
theorem reservedSourcesHaveNoBits : Obligations.ReservedSourcesHaveNoBits := by
  intro d i
  calc hasSource d i
      = ((namedMask i.reg).getLsbD i.bit && (d.sources.extractLsb' (16 * i.reg.val) 16).getLsbD i.bit) :=
        getLsbD_and_word _ _ _
    _ = (!([15, 18, 45, 62, 67] : List Nat).contains i.val && d.sources.getLsbD i.val) := by
        rw [getLsbD_namedMask, getLsbD_sources_slice]
    _ = _ := Bool.and_comm _ _

end Sys2Proof.Claims
end

section
/-! SUPPORT. What a step does to the memories: program memory and the device stay (20_memory.md R120), data memory is
only stored to byte by byte or emptied by a Reset (R101), and the settlements of StepKeepsProgramAndDevice and
StepKeepsCanonicalMemory. -/

namespace Sys2Proof.Machine

/-- Raising a hard trap goes on to a state that has the property, or resets the device. -/
theorem kept_of_raiseHard {P : State → Prop} {trap : Trap} {s after t : State}
    (ht : raiseHard trap s after = .next t) (h : P after) : P t ∨ IsReset s t := by
  rcases raiseHard_eq trap s after with ⟨-, e⟩ | ⟨-, e⟩ | ⟨-, e⟩ <;> rw [e] at ht <;> cases ht
  · exact .inr ⟨_, rfl⟩
  · exact .inl h

/-! ### Program memory and the device -/

/-- Program memory and the device are those of `s`. -/
def ProgramAndDeviceKept (s t : State) : Prop := t.prog = s.prog ∧ t.device = s.device

section
variable {s t : State}

theorem DataFrame.programAndDeviceKept {u : State} (frame : DataFrame t u) (h : ProgramAndDeviceKept s t) :
    ProgramAndDeviceKept s u := by
  obtain ⟨hprog, hdevice⟩ := h
  exact ⟨frame.prog.trans hprog, frame.device.trans hdevice⟩

/-- A Reset writes neither (70_reset_and_hazards.md R320). -/
theorem ProgramAndDeviceKept.of_kept_or_reset {u : State} (h : ProgramAndDeviceKept s t)
    (hu : ProgramAndDeviceKept s u ∨ IsReset t u) : ProgramAndDeviceKept s u := by
  rcases hu with hu | ⟨k, rfl⟩
  · exact hu
  · exact h

theorem ProgramAndDeviceKept.enterPriority (h : ProgramAndDeviceKept s t) (r : Request) :
    ProgramAndDeviceKept s (t.enterPriority r) := by
  cases r <;> exact h

/-- A store through the data space reaches a register or data memory, never program memory. -/
theorem programAndDeviceKept_acrossWrite (s : State) :
    KeptAcrossWrite (ProgramAndDeviceKept s) (ProgramAndDeviceKept s) :=
  KeptByEffects.acrossWrite
    { setW := fun h _ _ => h
      setTflag := fun h _ => h
      setRamByte := fun h _ _ => h
      setPc := fun h _ _ => h
      countDown := fun h _ => h }
    fun h r v be => (writeSfr_frame r v be _).1.programAndDeviceKept h

end

theorem programAndDeviceKept_keptByParts (s : State) : KeptByParts (ProgramAndDeviceKept s) where
  tickOver _ h := h
  event _ _ _ h ht := h.of_kept_or_reset ((applyEvent_eq ht).symm.imp_left fun e => by rw [e]; exact h)
  wake _ h := h
  arbitrate _ _ h := h
  exec _ _ _ h _ ht := h.of_kept_or_reset
    ((programAndDeviceKept_acrossWrite s).exec h ht (fun _ _ => h) (fun _ _ _ _ => h) fun _ _ _ hu => hu)
  fetchError _ _ h _ ht := h.of_kept_or_reset
    (kept_of_settle ((programAndDeviceKept_acrossWrite s).after.lostFinish h _) ht)
  entry r _ _ h _ ht := h.of_kept_or_reset
    ((programAndDeviceKept_acrossWrite s).entry h (fun _ _ hu => hu.enterPriority r) ht)
  collision _ h := h

/-! ### Data memory -/

/-- Data memory is in canonical form. -/
def DataMemoryCanonical (s : State) : Prop := s.mem.wf = true

section
variable {s t : State}

theorem DataMemoryCanonical.setRamByte (h : DataMemoryCanonical s) (a : DAddr) (v : Byte) :
    DataMemoryCanonical (s.setRamByte a v) :=
  memory_wf_set s.mem a v h

theorem DataMemoryCanonical.dmaWrite (h : DataMemoryCanonical s) (a : DAddr) (v : Byte) :
    DataMemoryCanonical (s.dmaWrite a v) := by
  unfold State.dmaWrite
  split
  · exact h.setRamByte a v
  · exact h

theorem DataMemoryCanonical.writeSfr (h : DataMemoryCanonical s) (r : Sfr) (v be : Word) :
    DataMemoryCanonical (s.writeSfr r v be) := by
  obtain ⟨-, hmem⟩ := writeSfr_frame r v be s
  exact (congrArg Memory.wf hmem).trans h

theorem DataMemoryCanonical.enterPriority (h : DataMemoryCanonical s) (r : Request) :
    DataMemoryCanonical (s.enterPriority r) := by
  cases r <;> exact h

/-- After a Reset no byte is listed. -/
theorem dataMemoryCanonical_deviceReset (k : ResetKind) (s : State) : DataMemoryCanonical (deviceReset k s) := rfl

theorem dataMemoryCanonical_acrossWrite : KeptAcrossWrite DataMemoryCanonical DataMemoryCanonical :=
  KeptByEffects.acrossWrite
    { setW := fun h _ _ => h
      setTflag := fun h _ => h
      setRamByte := DataMemoryCanonical.setRamByte
      setPc := fun h _ _ => h
      countDown := fun h _ => h }
    DataMemoryCanonical.writeSfr

/-- The DMA controller is the only agent of the environment that stores to data memory (20_memory.md R118). -/
theorem DataMemoryCanonical.event {e : Event} (h : DataMemoryCanonical s) (ht : applyEvent e s = .next t) :
    DataMemoryCanonical t ∨ IsReset s t := by
  cases e with
  | oscFail | dataAddressError => exact kept_of_raiseHard (P := DataMemoryCanonical) ht h
  | reset kind => cases ht; exact .inr ⟨kind, rfl⟩
  | accOverflow acc v | accCatastrophic acc v | accResult acc v => cases ht; left; cases acc <;> exact h
  | dmaWrite a v => cases ht; exact .inl (h.dmaWrite a v)
  | fire i | pin k level | divideByZero | shiftError => cases ht; exact .inl h

end

theorem dataMemoryCanonical_keptInStep : KeptInStep DataMemoryCanonical where
  ops := dataMemoryCanonical_acrossWrite
  reset := dataMemoryCanonical_deviceReset
  tickOver _ h := h
  wake _ h := h
  arbitrate _ _ h := h
  event _ _ _ h ht := h.event ht
  exec _ _ _ h _ ht :=
    dataMemoryCanonical_acrossWrite.exec h ht (fun _ _ => h) (fun _ _ _ _ => h) fun _ _ _ hu => hu
  entry r _ _ h ht := dataMemoryCanonical_acrossWrite.entry h (fun _ _ hu => hu.enterPriority r) ht

end Sys2Proof.Machine

namespace Sys2Proof.Claims

open Sys2Proof Sys2Proof.Machine

/-- Settles O60: no part of a step, a Reset included, writes either. -/
theorem stepKeepsProgramAndDevice : Obligations.StepKeepsProgramAndDevice := fun s t ht =>
  (programAndDeviceKept_keptByParts s).step s t ⟨rfl, rfl⟩ ht

/-- Settles O56: program memory stays, and every store to data memory keeps its form. -/
theorem stepKeepsCanonicalMemory : Obligations.StepKeepsCanonicalMemory := by
  intro s t hs ht
  obtain ⟨hmem, hprog⟩ := hs
  obtain ⟨hprogKept, -⟩ := stepKeepsProgramAndDevice s t ht
  exact ⟨dataMemoryCanonical_keptInStep.keptByParts.step s t hmem ht, (congrArg ProgMem.wf hprogKept).trans hprog⟩

end Sys2Proof.Claims
end

section
/-! SUPPORT. The decoder as a table of rows, each with what it reads (30_encoding.md R133 to R136), and the settlements
of DecodeEncodeRoundTrip, EncodeDecodeRoundTrip, DecodeRejectsExactlyUnlisted, WorkedEncodingsDecode and
StepRefusesUnlistedWord. Any two rows disagree on a bit that both fix, so a word is read by the one row that it
matches. -/

namespace Sys2Proof

/-! ### The parts of a word -/

theorem extractLsb'_eq_append_iff {k m n : Nat} {w : BitVec k} {lo : Nat} {a : BitVec m} {b : BitVec n} :
    w.extractLsb' lo (m + n) = a ++ b ↔ w.extractLsb' (lo + n) m = a ∧ w.extractLsb' lo n = b := by
  rw [← BitVec.extractLsb'_append_extractLsb'_eq_extractLsb' (start₂ := lo + n) rfl]
  constructor
  · intro h
    exact ⟨by simpa only [BitVec.extractLsb'_append_eq_left] using congrArg (BitVec.extractLsb' n m) h,
      by simpa only [BitVec.extractLsb'_append_eq_right] using congrArg (BitVec.extractLsb' 0 n) h⟩
  · rintro ⟨rfl, rfl⟩
    rfl

/-- A word is two parts exactly if its fields at their places are those parts. -/
theorem eq_append₂_iff {m n : Nat} {w : BitVec (m + n)} {a : BitVec m} {b : BitVec n} :
    w = a ++ b ↔ w.extractLsb' n m = a ∧ w.extractLsb' 0 n = b := by
  have h := extractLsb'_eq_append_iff (w := w) (lo := 0) (a := a) (b := b)
  rwa [BitVec.extractLsb'_eq_self, Nat.zero_add] at h

theorem eq_append₃_iff {m n p : Nat} {w : BitVec (m + n + p)} {a : BitVec m} {b : BitVec n} {c : BitVec p} :
    w = a ++ b ++ c ↔ w.extractLsb' (p + n) m = a ∧ w.extractLsb' p n = b ∧ w.extractLsb' 0 p = c := by
  rw [eq_append₂_iff, extractLsb'_eq_append_iff, and_assoc]

theorem eq_append₄_iff {m n p q : Nat} {w : BitVec (m + n + p + q)} {a : BitVec m} {b : BitVec n} {c : BitVec p}
    {d : BitVec q} :
    w = a ++ b ++ c ++ d ↔ w.extractLsb' (q + p + n) m = a ∧ w.extractLsb' (q + p) n = b ∧ w.extractLsb' q p = c
      ∧ w.extractLsb' 0 q = d := by
  rw [eq_append₂_iff, extractLsb'_eq_append_iff, extractLsb'_eq_append_iff, and_assoc, and_assoc]

/-- A bit as a field of length 1. -/
theorem extractLsb'_one {n : Nat} (w : BitVec n) (i : Nat) : w.extractLsb' i 1 = BitVec.ofBool (w.getLsbD i) := by
  apply BitVec.eq_of_getLsbD_eq
  intro j hj
  obtain rfl : j = 0 := by omega
  simp

theorem extractLsb'_one_eq_ofBool_iff {n : Nat} {w : BitVec n} {i : Nat} {b : Bool} :
    w.extractLsb' i 1 = BitVec.ofBool b ↔ w.getLsbD i = b := by
  rw [extractLsb'_one]
  cases w.getLsbD i <;> cases b <;> decide

/-! ### Even addresses -/

theorem evenAddr_iff {n : Nat} (a : BitVec n) : evenAddr a = true ↔ a.extractLsb' 0 1 = 0#1 := by
  rw [show 0#1 = BitVec.ofBool false from rfl, extractLsb'_one_eq_ofBool_iff, evenAddr, Bool.not_eq_true']

theorem evenAddr_append_zero {n : Nat} (a : BitVec n) : evenAddr (a ++ 0#1) = true :=
  (evenAddr_iff _).mpr BitVec.extractLsb'_append_eq_right

theorem extractLsb'_fileAddr (f : BitVec 15) : (fileAddr f).extractLsb' 1 15 = f := BitVec.extractLsb'_append_eq_left

/-- An even address is its bits 15:1 and a 0 (30_encoding.md R134). -/
theorem fileAddr_extractLsb' {f : DAddr} (hf : evenAddr f = true) : fileAddr (f.extractLsb' 1 15) = f :=
  ((eq_append₂_iff (m := 15) (n := 1)).mpr ⟨rfl, (evenAddr_iff f).mp hf⟩).symm

end Sys2Proof

namespace Sys2Proof.Claims

open Sys2Proof Sys2Proof.Machine

/-! ### Rows of the opcode map -/

/-- The row of the words whose field at `lo` is `v`. -/
def fieldRow (lo : Nat) {len : Nat} (v : BitVec len) : PWord × PWord :=
  (v.setWidth 24 <<< lo, (BitVec.allOnes len).setWidth 24 <<< lo)

/-- The row of the words whose high byte is `v` and whose bit 0 is 0. -/
def evenRow (v : BitVec 8) : PWord × PWord := (v ++ 0#15 ++ 0#1, 0xFF0001#24)

theorem matchesRow_iff (w : PWord) (row : PWord × PWord) : matchesRow w row = true ↔ w &&& row.2 = row.1 :=
  beq_iff_eq

theorem getLsbD_fieldRow_mask (lo : Nat) {len : Nat} (v : BitVec len) {i : Nat} (hi : i < 24) :
    (fieldRow lo v).2.getLsbD i = decide (lo ≤ i ∧ i - lo < len) := by
  simp only [fieldRow, BitVec.getLsbD_shiftLeft, BitVec.getLsbD_setWidth, BitVec.getLsbD_allOnes]
  grind

theorem getLsbD_fieldRow_match (lo : Nat) {len : Nat} (v : BitVec len) {i : Nat} (hi : i < 24) :
    (fieldRow lo v).1.getLsbD i = (decide (lo ≤ i) && v.getLsbD (i - lo)) := by
  simp only [fieldRow, BitVec.getLsbD_shiftLeft, BitVec.getLsbD_setWidth]
  grind

theorem matchesRow_fieldRow (w : PWord) {lo len : Nat} (v : BitVec len) (hlen : lo + len ≤ 24) :
    matchesRow w (fieldRow lo v) = true ↔ field w lo len = v := by
  rw [matchesRow_iff]
  constructor
  · intro h
    apply BitVec.eq_of_getLsbD_eq
    intro j hj
    have hi : lo + j < 24 := by omega
    have hbit : (w &&& (fieldRow lo v).2).getLsbD (lo + j) = (fieldRow lo v).1.getLsbD (lo + j) := by rw [h]
    simpa [getLsbD_fieldRow_mask lo v hi, getLsbD_fieldRow_match lo v hi, hj] using hbit
  · rintro rfl
    apply BitVec.eq_of_getLsbD_eq
    intro i hi
    rw [BitVec.getLsbD_and, getLsbD_fieldRow_mask _ _ hi, getLsbD_fieldRow_match _ _ hi, BitVec.getLsbD_extractLsb']
    by_cases hlo : lo ≤ i
    · simp [hlo, Bool.and_comm]
    · simp [hlo]

theorem matchesRow_of_field {w : PWord} {lo len : Nat} {v : BitVec len} (h : field w lo len = v)
    (hlen : lo + len ≤ 24 := by decide) : matchesRow w (fieldRow lo v) = true :=
  (matchesRow_fieldRow w v hlen).mpr h

theorem matchesRow_evenRow (w : PWord) (v : BitVec 8) :
    matchesRow w (evenRow v) = true ↔ field w 16 8 = v ∧ field w 0 1 = 0#1 := by
  have hhigh : field (w &&& 0xFF0001#24) 16 8 = field w 16 8 :=
    BitVec.extractLsb'_and.trans BitVec.and_allOnes
  have hmiddle : field (w &&& 0xFF0001#24) 1 15 = 0#15 := BitVec.extractLsb'_and.trans BitVec.and_zero
  have hlow : field (w &&& 0xFF0001#24) 0 1 = field w 0 1 := BitVec.extractLsb'_and.trans BitVec.and_allOnes
  calc matchesRow w (evenRow v) = true
      ↔ w &&& 0xFF0001#24 = v ++ 0#15 ++ 0#1 := matchesRow_iff w _
    _ ↔ field (w &&& 0xFF0001#24) 16 8 = v ∧ field (w &&& 0xFF0001#24) 1 15 = 0#15
          ∧ field (w &&& 0xFF0001#24) 0 1 = 0#1 := eq_append₃_iff (m := 8) (n := 15) (p := 1)
    _ ↔ field w 16 8 = v ∧ field w 0 1 = 0#1 := by rw [hhigh, hmiddle, hlow]; simp only [true_and]

/-! ### No word matches two rows -/

/-- Any two rows disagree on a bit that both fix (30_encoding.md R135). -/
theorem opcodeRows_disagree : opcodeRows.Pairwise fun a b => a.1 &&& b.2 ≠ b.1 &&& a.2 := by decide

theorem not_matchesRow_both {w : PWord} {a b : PWord × PWord} (h : a.1 &&& b.2 ≠ b.1 &&& a.2) :
    ¬ (matchesRow w a = true ∧ matchesRow w b = true) := by
  rintro ⟨ha, hb⟩
  rw [matchesRow_iff] at ha hb
  apply h
  rw [← ha, ← hb, BitVec.and_assoc, BitVec.and_comm a.2, ← BitVec.and_assoc]

theorem opcodeRows_disjoint (w : PWord) :
    opcodeRows.Pairwise fun a b => ¬ (matchesRow w a = true ∧ matchesRow w b = true) :=
  opcodeRows_disagree.imp not_matchesRow_both

section
variable {α : Type} {p : α → Bool} {l : List α}

theorem find?_eq_some_of_disjoint {a : α} (hl : l.Pairwise fun a b => ¬ (p a = true ∧ p b = true)) (ha : a ∈ l)
    (hp : p a = true) : l.find? p = some a := by
  induction hl with
  | nil => simp at ha
  | @cons b l hb _ ih =>
    rcases List.mem_cons.mp ha with rfl | ha
    · rw [List.find?_cons_of_pos hp]
    · rw [List.find?_cons_of_neg fun hpb => hb a ha ⟨hpb, hp⟩, ih ha]

theorem countP_le_one_of_disjoint (hl : l.Pairwise fun a b => ¬ (p a = true ∧ p b = true)) : l.countP p ≤ 1 := by
  induction hl with
  | nil => simp
  | @cons b l hb _ ih =>
    by_cases hpb : p b = true
    · have hrest : l.countP p = 0 := List.countP_eq_zero.mpr fun a ha hpa => hb a ha ⟨hpb, hpa⟩
      rw [List.countP_cons_of_pos hpb, hrest]
    · rw [List.countP_cons_of_neg hpb]; exact ih

end

/-! ### The decoder's rows -/

/-- A row, and what it reads from a word that matches it and the words after it. -/
abbrev DecodeRow := (PWord × PWord) × (PWord → List PWord → Decoded)

/-- What a row of one word reads. -/
def oneWord (read : PWord → Instr) (w : PWord) (rest : List PWord) : Decoded := .ok (read w) rest

/-- The rows in the order in which the decoder tries them. -/
def decodeRows : List DecodeRow :=
  [(evenRow 0x04#8, decodeGoto),
   (fieldRow 16 0x00#8, oneWord fun w => .nop (field w 0 16)),
   (fieldRow 0 0x060000#24, oneWord fun _ => .ret),
   (fieldRow 0 0x064000#24, oneWord fun _ => .retfie),
   (fieldRow 20 0x2#4, oneWord fun w => .movLit (field w 4 16) (field w 0 4)),
   (fieldRow 16 0x37#8, oneWord fun w => .bra (field w 0 16)),
   (fieldRow 19 0x10#5, oneWord fun w => .movToReg (fileAddr (field w 4 15)) (field w 0 4)),
   (fieldRow 19 0x11#5, oneWord fun w => .movToFile (field w 0 4) (fileAddr (field w 4 15))),
   (fieldRow 15 0x1DE#9, oneWord fun w => .clr (w.getLsbD 14) (w.getLsbD 13) (field w 0 13)),
   (evenRow 0xF8#8, oneWord fun w => .push (fileAddr (field w 1 15))),
   (evenRow 0xF9#8, oneWord fun w => .pop (fileAddr (field w 1 15))),
   (fieldRow 14 0x3F0#10, oneWord fun w => .disi (field w 0 14)),
   (fieldRow 0 0xFE0000#24, oneWord fun _ => .reset),
   (fieldRow 1 0x7F2000#23, oneWord fun w => .pwrsav (field w 0 1))]

/-- They are the rows of the opcode map, GOTO tried before NOP. -/
theorem opcodeRows_perm : opcodeRows.Perm (decodeRows.map Prod.fst) := List.Perm.swap _ _ _

theorem decodeRows_disjoint (w : PWord) :
    decodeRows.Pairwise fun a b => ¬ (matchesRow w a.1 = true ∧ matchesRow w b.1 = true) :=
  List.pairwise_map.mp (opcodeRows_perm.pairwise (opcodeRows_disjoint w) fun h => by rwa [and_comm])

/-- The first of some rows that a word matches reads it. -/
def readByRows (w : PWord) (rest : List PWord) (rows : List DecodeRow) : Decoded :=
  match rows.find? fun row => matchesRow w row.1 with
  | some row => row.2 w rest
  | none => .reject (.unlisted w)

theorem readByRows_cons (w : PWord) (rest : List PWord) (row : PWord × PWord) (read : PWord → List PWord → Decoded)
    (rows : List DecodeRow) :
    readByRows w rest ((row, read) :: rows)
      = if matchesRow w row = true then read w rest else readByRows w rest rows := by
  unfold readByRows
  rw [List.find?_cons]
  cases matchesRow w row <;> rfl

theorem elim_ite_some {α β : Type} (c : Prop) [Decidable c] (a : α) (o : Option α) (b : β) (f : α → β) :
    (if c then some a else o).elim b f = if c then f a else o.elim b f := by
  split <;> rfl

/-- The decoder reads a word by its rows. -/
theorem decode_eq_readByRows (w : PWord) (rest : List PWord) :
    decode (w :: rest) = readByRows w rest decodeRows := by
  have hdecode : decode (w :: rest) = if field w 16 8 = 0x04#8 ∧ field w 0 1 = 0#1 then decodeGoto w rest
      else (decodeOne w).elim (.reject (.unlisted w)) fun i => .ok i rest := by
    rw [decode]
    cases decodeOne w <;> rfl
  rw [hdecode, decodeOne]
  simp only [decodeRows, readByRows_cons, matchesRow_evenRow, matchesRow_fieldRow, Nat.reduceAdd, le_refl, field,
    BitVec.extractLsb'_eq_self, elim_ite_some]
  rfl

/-- A word that matches a row is read by it. -/
theorem decode_of_row (k : Nat) {row : PWord × PWord} {read : PWord → List PWord → Decoded} {w : PWord}
    (hrow : decodeRows[k]? = some (row, read)) (hw : matchesRow w row = true) (rest : List PWord) :
    decode (w :: rest) = read w rest := by
  rw [decode_eq_readByRows, readByRows,
    find?_eq_some_of_disjoint (decodeRows_disjoint w) (List.mem_of_getElem? hrow) hw]

theorem decode_of_oneWord (k : Nat) {row : PWord × PWord} {read : PWord → Instr} {w : PWord} {i : Instr}
    (hrow : decodeRows[k]? = some (row, oneWord read)) (hw : matchesRow w row = true) (hread : read w = i)
    (rest : List PWord) : decode (w :: rest) = .ok i rest := by
  rw [decode_of_row k hrow hw, oneWord, hread]

/-- What decodes is read by a row that its first word matches. -/
theorem exists_row_of_decode {w : PWord} {rest rest' : List PWord} {i : Instr}
    (h : decode (w :: rest) = .ok i rest') :
    ∃ row ∈ decodeRows, matchesRow w row.1 = true ∧ row.2 w rest = .ok i rest' := by
  rw [decode_eq_readByRows, readByRows] at h
  split at h
  · next row hfind =>
    have hw := List.find?_some hfind
    exact ⟨row, List.mem_of_find?_eq_some hfind, hw, h⟩
  · cases h

/-! ### Encoding, then decoding -/

theorem decode_encode_goto {t : PAddr} (ht : evenAddr t = true) (rest : List PWord) :
    decode (encode (.goto t) ++ rest) = .ok (.goto t) rest := by
  let w : PWord := 0x04#8 ++ t.extractLsb' 1 15 ++ 0#1
  let w2 : PWord := 0#17 ++ t.extractLsb' 16 7
  obtain ⟨hop, hmiddle, hlow⟩ : field w 16 8 = 0x04#8 ∧ field w 1 15 = t.extractLsb' 1 15 ∧ field w 0 1 = 0#1 :=
    eq_append₃_iff.mp rfl
  obtain ⟨hzero, hhigh⟩ : field w2 7 17 = 0#17 ∧ field w2 0 7 = t.extractLsb' 16 7 := eq_append₂_iff.mp rfl
  have htarget : t = t.extractLsb' 16 7 ++ t.extractLsb' 1 15 ++ 0#1 :=
    (eq_append₃_iff (m := 7) (n := 15) (p := 1)).mpr ⟨rfl, rfl, (evenAddr_iff t).mp ht⟩
  calc decode (w :: w2 :: rest)
      = decodeGoto w (w2 :: rest) := decode_of_row 0 rfl ((matchesRow_evenRow w _).mpr ⟨hop, hlow⟩) _
    _ = .ok (.goto (field w2 0 7 ++ field w 1 15 ++ 0#1)) rest := if_pos hzero
    _ = .ok (.goto t) rest := by rw [hhigh, hmiddle, ← htarget]

theorem fileAddr_of_field {w : PWord} {f : DAddr} {lo : Nat} (h : field w lo 15 = f.extractLsb' 1 15)
    (hf : evenAddr f = true) : fileAddr (field w lo 15) = f := by
  rw [h, fileAddr_extractLsb' hf]

/-- Settles O1: an encoding's parts are the fields that make it match its own row and that the row reads. -/
theorem decodeEncodeRoundTrip : Obligations.DecodeEncodeRoundTrip := by
  intro i rest hi
  cases i with
  | nop x =>
    obtain ⟨hop, hx⟩ := eq_append₂_iff.mp (Eq.refl (0x00#8 ++ x))
    exact decode_of_oneWord 1 rfl (matchesRow_of_field hop) (congrArg Instr.nop hx) rest
  | goto t => exact decode_encode_goto hi rest
  | ret => exact decode_of_oneWord 2 rfl (by decide) rfl rest
  | retfie => exact decode_of_oneWord 3 rfl (by decide) rfl rest
  | movLit x d =>
    obtain ⟨hop, hx, hd⟩ := eq_append₃_iff.mp (Eq.refl (0x2#4 ++ x ++ d))
    exact decode_of_oneWord 4 rfl (matchesRow_of_field hop) (congrArg₂ Instr.movLit hx hd) rest
  | bra n =>
    obtain ⟨hop, hn⟩ := eq_append₂_iff.mp (Eq.refl (0x37#8 ++ n))
    exact decode_of_oneWord 5 rfl (matchesRow_of_field hop) (congrArg Instr.bra hn) rest
  | movToReg f d =>
    obtain ⟨hop, hf, hd⟩ := eq_append₃_iff.mp (Eq.refl (0x10#5 ++ f.extractLsb' 1 15 ++ d))
    exact decode_of_oneWord 6 rfl (matchesRow_of_field hop)
      (congrArg₂ Instr.movToReg (fileAddr_of_field hf hi) hd) rest
  | movToFile ws f =>
    obtain ⟨hop, hf, hws⟩ := eq_append₃_iff.mp (Eq.refl (0x11#5 ++ f.extractLsb' 1 15 ++ ws))
    exact decode_of_oneWord 7 rfl (matchesRow_of_field hop)
      (congrArg₂ Instr.movToFile hws (fileAddr_of_field hf hi)) rest
  | clr b d f =>
    obtain ⟨hop, hb, hd, hf⟩ := eq_append₄_iff.mp (Eq.refl (0x1DE#9 ++ BitVec.ofBool b ++ BitVec.ofBool d ++ f))
    have hread := congr (congrArg₂ Instr.clr (extractLsb'_one_eq_ofBool_iff.mp hb)
      (extractLsb'_one_eq_ofBool_iff.mp hd)) hf
    exact decode_of_oneWord 8 rfl (matchesRow_of_field hop) hread rest
  | push f =>
    obtain ⟨hop, hf, hlow⟩ := eq_append₃_iff.mp (Eq.refl (0xF8#8 ++ f.extractLsb' 1 15 ++ 0#1))
    exact decode_of_oneWord 9 rfl ((matchesRow_evenRow _ _).mpr ⟨hop, hlow⟩)
      (congrArg Instr.push (fileAddr_of_field hf hi)) rest
  | pop f =>
    obtain ⟨hop, hf, hlow⟩ := eq_append₃_iff.mp (Eq.refl (0xF9#8 ++ f.extractLsb' 1 15 ++ 0#1))
    exact decode_of_oneWord 10 rfl ((matchesRow_evenRow _ _).mpr ⟨hop, hlow⟩)
      (congrArg Instr.pop (fileAddr_of_field hf hi)) rest
  | disi k =>
    obtain ⟨hop, hk⟩ := eq_append₂_iff.mp (Eq.refl (0x3F0#10 ++ k))
    exact decode_of_oneWord 11 rfl (matchesRow_of_field hop) (congrArg Instr.disi hk) rest
  | reset => exact decode_of_oneWord 12 rfl (by decide) rfl rest
  | pwrsav k =>
    obtain ⟨hop, hk⟩ := eq_append₂_iff.mp (Eq.refl (0x7F2000#23 ++ k))
    exact decode_of_oneWord 13 rfl (matchesRow_of_field hop) (congrArg Instr.pwrsav hk) rest

/-- Settles O4: the words are the encodings of the instructions beside them. -/
theorem workedEncodingsDecode : Obligations.WorkedEncodingsDecode :=
  ⟨decodeEncodeRoundTrip (.disi 5) [] rfl, decodeEncodeRoundTrip .retfie [] rfl,
    decodeEncodeRoundTrip (.pwrsav 1) [] rfl, decodeEncodeRoundTrip (.goto 0x012344) [] rfl,
    decodeEncodeRoundTrip (.bra 0xFFFF) [] rfl, decodeEncodeRoundTrip (.push 0x0042) [] rfl,
    decodeEncodeRoundTrip (.clr false true 0x0084) [] rfl, decodeEncodeRoundTrip (.movLit 0x00E0 1) [] rfl,
    decodeEncodeRoundTrip (.movToFile 0 0x0094) [] rfl, decodeEncodeRoundTrip (.movToReg 0x0084 1) [] rfl⟩

/-! ### Decoding, then encoding -/

/-- What a row reads is well-formed and encoded by the words that it was read from. -/
def RowEncodes (row : DecodeRow) : Prop :=
  ∀ (w : PWord) (rest : List PWord) (i : Instr) (rest' : List PWord), matchesRow w row.1 = true →
    row.2 w rest = .ok i rest' → i.wf = true ∧ encode i ++ rest' = w :: rest

theorem rowEncodes_oneWord {row : PWord × PWord} {read : PWord → Instr}
    (h : ∀ w, matchesRow w row = true → (read w).wf = true ∧ [w] = encode (read w)) :
    RowEncodes (row, oneWord read) := by
  intro w rest i rest' hw hread
  obtain ⟨rfl, rfl⟩ := Decoded.ok.inj hread
  obtain ⟨hwf, hencode⟩ := h w hw
  exact ⟨hwf, by rw [← hencode, List.singleton_append]⟩

theorem rowEncodes_fieldRow {lo len : Nat} {v : BitVec len} {read : PWord → Instr}
    (h : ∀ w, field w lo len = v → (read w).wf = true ∧ [w] = encode (read w))
    (hlen : lo + len ≤ 24 := by decide) : RowEncodes (fieldRow lo v, oneWord read) :=
  rowEncodes_oneWord fun w hw => h w ((matchesRow_fieldRow w v hlen).mp hw)

theorem rowEncodes_word {v : PWord} {i : Instr} (hwf : i.wf = true) (hencode : [v] = encode i) :
    RowEncodes (fieldRow 0 v, oneWord fun _ => i) :=
  rowEncodes_fieldRow fun w hw => by
    rw [field, BitVec.extractLsb'_eq_self] at hw
    exact ⟨hwf, hw ▸ hencode⟩

/-- PUSH and POP, whose even address fills the word. -/
theorem rowEncodes_evenRow {v : BitVec 8} {mk : DAddr → Instr} (hwf : ∀ f, (mk f).wf = evenAddr f)
    (hencode : ∀ f, encode (mk f) = [v ++ f.extractLsb' 1 15 ++ 0#1]) :
    RowEncodes (evenRow v, oneWord fun w => mk (fileAddr (field w 1 15))) :=
  rowEncodes_oneWord fun w hw => by
    obtain ⟨hop, hlow⟩ := (matchesRow_evenRow w v).mp hw
    rw [hwf, hencode, extractLsb'_fileAddr]
    exact ⟨evenAddr_append_zero _, congrArg (fun w => [w])
      ((eq_append₃_iff (m := 8) (n := 15) (p := 1)).mpr ⟨hop, rfl, hlow⟩)⟩

theorem rowEncodes_goto : RowEncodes (evenRow 0x04#8, decodeGoto) := by
  intro w rest i rest' hw hread
  obtain ⟨hop, hlow⟩ := (matchesRow_evenRow w _).mp hw
  cases rest with
  | nil => cases hread
  | cons w2 rest =>
    change decodeGoto w (w2 :: rest) = _ at hread
    rw [decodeGoto] at hread
    split at hread
    · next hzero =>
      obtain ⟨rfl, rfl⟩ := Decoded.ok.inj hread
      obtain ⟨hhigh, hmiddle, -⟩ := eq_append₃_iff.mp (Eq.refl (field w2 0 7 ++ field w 1 15 ++ 0#1))
      have hw : w = 0x04#8 ++ field w 1 15 ++ 0#1 :=
        (eq_append₃_iff (m := 8) (n := 15) (p := 1)).mpr ⟨hop, rfl, hlow⟩
      have hw2 : w2 = 0#17 ++ field w2 0 7 := (eq_append₂_iff (m := 17) (n := 7)).mpr ⟨hzero, rfl⟩
      have hencode : encode (.goto (field w2 0 7 ++ field w 1 15 ++ 0#1)) = [w, w2] := by
        rw [encode, hhigh, hmiddle, ← hw, ← hw2]
      exact ⟨evenAddr_append_zero _, by rw [hencode]; rfl⟩
    · cases hread

theorem rowEncodes_decodeRows : ∀ row ∈ decodeRows, RowEncodes row := by
  simp only [decodeRows, List.forall_mem_cons, List.not_mem_nil, false_imp_iff, implies_true, and_true]
  refine ⟨rowEncodes_goto, ?nop, rowEncodes_word rfl rfl, rowEncodes_word rfl rfl, ?movLit, ?bra, ?movToReg,
    ?movToFile, ?clr, rowEncodes_evenRow (fun _ => rfl) fun _ => rfl, rowEncodes_evenRow (fun _ => rfl) fun _ => rfl,
    ?disi, rowEncodes_word rfl rfl, ?pwrsav⟩
  case nop | bra =>
    refine rowEncodes_fieldRow fun w hop => ⟨rfl, congrArg ([·]) ?_⟩
    exact (eq_append₂_iff (m := 8) (n := 16)).mpr ⟨hop, rfl⟩
  case disi =>
    refine rowEncodes_fieldRow fun w hop => ⟨rfl, congrArg ([·]) ?_⟩
    exact (eq_append₂_iff (m := 10) (n := 14)).mpr ⟨hop, rfl⟩
  case pwrsav =>
    refine rowEncodes_fieldRow fun w hop => ⟨rfl, congrArg ([·]) ?_⟩
    exact (eq_append₂_iff (m := 23) (n := 1)).mpr ⟨hop, rfl⟩
  case movLit =>
    refine rowEncodes_fieldRow fun w hop => ⟨rfl, congrArg ([·]) ?_⟩
    exact (eq_append₃_iff (m := 4) (n := 16) (p := 4)).mpr ⟨hop, rfl, rfl⟩
  case movToReg | movToFile =>
    refine rowEncodes_fieldRow fun w hop => ⟨evenAddr_append_zero _, ?_⟩
    rw [encode, extractLsb'_fileAddr]
    exact congrArg ([·]) ((eq_append₃_iff (m := 5) (n := 15) (p := 4)).mpr ⟨hop, rfl, rfl⟩)
  case clr =>
    refine rowEncodes_fieldRow fun w hop => ⟨rfl, congrArg ([·]) ?_⟩
    exact (eq_append₄_iff (m := 9) (n := 1) (p := 1) (q := 13)).mpr
      ⟨hop, extractLsb'_one w 14, extractLsb'_one w 13, rfl⟩

/-- Settles O2: the row that read the instruction has its words. -/
theorem encodeDecodeRoundTrip : Obligations.EncodeDecodeRoundTrip := by
  intro ws i rest h
  cases ws with
  | nil => cases h
  | cons w tail =>
    obtain ⟨row, hrow, hw, hread⟩ := exists_row_of_decode h
    exact rowEncodes_decodeRows row hrow w tail i rest hw hread

/-! ### Rejected words -/

theorem row_ne_unlisted (w : PWord) (rest : List PWord) :
    ∀ row ∈ decodeRows, row.2 w rest ≠ .reject (.unlisted w) := by
  have hgoto : decodeGoto w rest ≠ .reject (.unlisted w) := by
    cases rest with
    | nil => simp [decodeGoto]
    | cons w2 rest => rw [decodeGoto]; split <;> simp
  simp [decodeRows, oneWord, hgoto]

/-- Exactly the words that no row matches are rejected as unlisted (30_encoding.md R136). -/
theorem decode_eq_unlisted_iff (w : PWord) (rest : List PWord) :
    decode (w :: rest) = .reject (.unlisted w) ↔ opcodeRows.all (fun row => !matchesRow w row) = true := by
  have hnone : decodeRows.find? (fun row => matchesRow w row.1) = none
      ↔ opcodeRows.all (fun row => !matchesRow w row) = true := by
    simp only [List.find?_eq_none, List.all_eq_true, opcodeRows_perm.mem_iff, List.forall_mem_map,
      Bool.not_eq_true, Bool.not_eq_true']
  rw [← hnone, decode_eq_readByRows, readByRows]
  split
  · next row hfind =>
    simp only [hfind, reduceCtorEq, iff_false]
    exact row_ne_unlisted w rest row (List.mem_of_find?_eq_some hfind)
  · next hfind => simp only [hfind]

/-- Settles O3: the rows are disjoint, and a word of the GOTO row is read by it. -/
theorem decodeRejectsExactlyUnlisted : Obligations.DecodeRejectsExactlyUnlisted := by
  intro w rest
  refine ⟨countP_le_one_of_disjoint (opcodeRows_disjoint w), decode_eq_unlisted_iff w rest, fun hw => ⟨?_, ?_⟩⟩
  · exact decode_of_row 0 rfl hw []
  · intro w2 hw2
    have hnonzero : field w2 7 17 ≠ 0#17 := fun h => hw2 ((matchesRow_iff _ _).mp (matchesRow_of_field h))
    exact (decode_of_row 0 rfl hw (w2 :: rest)).trans (if_neg hnonzero)

/-! ### The step -/

/-- A step in which no request wins executes the instruction at the pc (60_exceptions.md R215). -/
theorem step_of_no_winner {s u : State} (harb : Arbitrates s u) (hwinner : u.winner = none) :
    step s = executeInstruction s.slot.dmaCollision { u with stalePrio := [], skid := 0 } := by
  obtain ⟨hevents, hmode⟩ := harb
  calc step s
      = cpuStep s.slot.dmaCollision u := by simp only [step, fullStep, hevents]
    _ = runStep s.slot.dmaCollision u := by simp only [cpuStep, hmode]
    _ = executeInstruction s.slot.dmaCollision { u with stalePrio := [], skid := 0 } := by
        simp only [runStep, hwinner]

/-- An instruction whose words do not decode is refused by the decoder's reason (30_encoding.md R136). -/
theorem executeInstruction_of_reject {collision : Bool} {s : State} {why : DecodeError}
    (hprog : progImplemented s.device s.pc = true) (hdecode : decode s.fetchWords = .reject why) :
    executeInstruction collision s = refuseWords (s.progWord s.pc) why := by
  simp only [executeInstruction, hprog, hdecode, Bool.not_true, Bool.false_eq_true, if_false]

/-- Settles O6: the word is rejected as unlisted, and the step refuses it so. -/
theorem stepRefusesUnlistedWord : Obligations.StepRefusesUnlistedWord := by
  intro s u harb hwinner hprog hw
  have hdecode := (decode_eq_unlisted_iff (u.progWord u.pc) [u.progWord u.secondWordAddr]).mpr hw
  rw [step_of_no_winner harb hwinner]
  exact executeInstruction_of_reject (s := { u with stalePrio := [], skid := 0 }) hprog hdecode

end Sys2Proof.Claims
end

section
/-! SUPPORT. What an assignment to each named field does, bit by bit (30_encoding.md R140), and the settlement of
AssignmentWritesOneField. -/

namespace Sys2Proof.Machine

/-- A field written back with the word it was read from: its writable bits take the value, every other bit stays. The
word read may lack bits that no code writes, and no bit of the field is clear-only. -/
theorem getLsbD_accessWrite_replace (f : RegField) {old read rw rc : Word} (v : Word) {n : Nat} (hn : n < 16)
    (hread : (rw.getLsbD n || rc.getLsbD n) = true → read.getLsbD n = old.getLsbD n)
    (hrc : f.low ≤ n ∧ n < f.low + f.width → rc.getLsbD n = false) :
    (accessWrite old (f.replace read v) rw rc 0xFFFF#16).getLsbD n
      = if rw.getLsbD n = true ∧ f.low ≤ n ∧ n < f.low + f.width then v.getLsbD (n - f.low)
        else old.getLsbD n := by
  rw [getLsbD_accessWrite, getLsbD_allOnes_word, if_pos (decide_eq_true hn), getLsbD_fieldReplace f read v n hn]
  by_cases hfield : f.low ≤ n ∧ n < f.low + f.width
  · simp [hfield, hrc hfield]
  · have hkept : ¬ (rw.getLsbD n = true ∧ f.low ≤ n ∧ n < f.low + f.width) := fun ⟨_, h⟩ => hfield h
    rw [if_neg hfield, if_neg hkept]
    by_cases hcoded : (rw.getLsbD n || rc.getLsbD n) = true
    · rw [hread hcoded]
      cases old.getLsbD n <;> simp
    · obtain ⟨hrw, hrc⟩ := Bool.or_eq_false_iff.mp (Bool.eq_false_of_not_eq_true hcoded)
      simp [hrw, hrc]

/-! ### Registers of the sources (11_interrupt_registers.md R71) -/

/-- The bank with a field of register `r`, which has the bits of `mask`, assigned. -/
def assignBank {k : Nat} (bank : Vector Word k) (r : Fin k) (mask : Word) (f : RegField) (v : Word) : Vector Word k :=
  bank.set r.val (accessWrite (bank.get r) (f.replace (bank.get r &&& mask) v) mask 0x0000#16 0xFFFF#16) r.isLt

theorem getLsbD_assignBank {k : Nat} (bank : Vector Word k) (r m : Fin k) (mask : Word) (f : RegField) (v : Word)
    {n : Nat} (hn : n < 16) :
    ((assignBank bank r mask f v).get m).getLsbD n
      = if m = r ∧ mask.getLsbD n = true ∧ f.low ≤ n ∧ n < f.low + f.width then v.getLsbD (n - f.low)
        else (bank.get m).getLsbD n := by
  unfold assignBank
  by_cases hm : m = r
  · subst hm
    have hread : (mask.getLsbD n || (0x0000#16).getLsbD n) = true
        → (bank.get m &&& mask).getLsbD n = (bank.get m).getLsbD n := by simp +contextual
    rw [vget_set_same _ _ _ _ _ rfl, getLsbD_accessWrite_replace f v hn hread fun _ => BitVec.getLsbD_zero]
    simp only [true_and]
  · rw [vget_set_other _ _ _ _ _ fun e => hm (Fin.ext e), if_neg fun ⟨h, _⟩ => hm h]

theorem irq_bit_lt (i : Irq) : i.bit < 16 := Nat.mod_lt _ (by decide)

/-- The bit of each source after an assignment to the bit of source `i`. -/
theorem sourceBit_assignBank {d : Device} {i : Irq} (hi : hasSource d i = true) (bank : Vector Word 5) (r : Sfr)
    (v : Word) (j : Irq) :
    (hasSource d j && ((assignBank bank i.reg (sourceMask d i.reg) ⟨r, i.bit, 1⟩ v).get j.reg).getLsbD j.bit)
      = if j = i then v.getLsbD 0 else hasSource d j && (bank.get j.reg).getLsbD j.bit := by
  rw [getLsbD_assignBank _ _ _ _ _ _ (irq_bit_lt j)]
  by_cases hj : j = i
  · subst hj
    have hbit : (sourceMask d j.reg).getLsbD j.bit = true := hi
    simp [hi, hbit]
  · have hother : ¬ (j.reg = i.reg ∧ (sourceMask d i.reg).getLsbD j.bit = true
        ∧ i.bit ≤ j.bit ∧ j.bit < i.bit + 1) := by
      rintro ⟨hreg, -, hle, hlt⟩
      exact hj ((irq_eq_iff j i).mp ⟨hreg, by omega⟩)
    rw [if_neg hother, if_neg hj]

theorem flag_assign {s : State} {i : Irq} (hi : hasSource s.device i = true) (v : Word) (j : Irq) :
    (s.assign ⟨i.flagField, v⟩).flag j = if j = i then v.getLsbD 0 else s.flag j :=
  sourceBit_assignBank hi s.ifs _ v j

theorem en_assign {s : State} {i : Irq} (hi : hasSource s.device i = true) (v : Word) (j : Irq) :
    (s.assign ⟨i.enableField, v⟩).en j = if j = i then v.getLsbD 0 else s.en j :=
  sourceBit_assignBank hi s.iec _ v j

/-- The priority fields of two sources have no bit in common. -/
theorem irq_eq_of_prioField {i j : Irq} {b : Nat} (hb : b < 3) (hreg : j.ipcReg = i.ipcReg)
    (hle : i.ipcLow ≤ j.ipcLow + b) (hlt : j.ipcLow + b < i.ipcLow + 3) : j = i := by
  have hdiv : j.val / 4 = i.val / 4 := congrArg Fin.val hreg
  have hlow : ∀ k : Irq, k.ipcLow = 4 * (k.val % 4) := fun _ => rfl
  rw [hlow, hlow] at hle hlt
  exact Fin.ext (by omega)

/-- The priority bits of each source after an assignment to the priority of source `i`. -/
theorem prioBit_assignBank {d : Device} {i : Irq} (hi : hasSource d i = true) (bank : Vector Word 18) (v : Word)
    (j : Irq) {b : Nat} (hb : b < 3) :
    ((assignBank bank i.ipcReg (ipcMask d i.ipcReg) i.prioField v).get j.ipcReg).getLsbD (j.ipcLow + b)
      = if j = i then v.getLsbD b else (bank.get j.ipcReg).getLsbD (j.ipcLow + b) := by
  have hlow : j.ipcLow = 4 * (j.val % 4) := rfl
  rw [getLsbD_assignBank _ _ _ _ _ _ (by omega)]
  by_cases hj : j = i
  · subst hj
    rw [getLsbD_ipcMask_field _ _ _ hb]
    simp [hi, Irq.prioField, hb]
  · rw [if_neg hj, if_neg]
    rintro ⟨hreg, -, hle, hlt⟩
    exact hj (irq_eq_of_prioField hb hreg hle hlt)

theorem prio_assign {s : State} {i : Irq} (hi : hasSource s.device i = true) (v : Word) (j : Irq) :
    (s.assign ⟨i.prioField, v⟩).prio j = if j = i then v.extractLsb' 0 3 else s.prio j := by
  have hfield : ((assignBank s.ipc i.ipcReg (ipcMask s.device i.ipcReg) i.prioField v).get j.ipcReg).extractLsb'
      j.ipcLow 3 = if j = i then v.extractLsb' 0 3 else (s.ipc.get j.ipcReg).extractLsb' j.ipcLow 3 := by
    apply BitVec.eq_of_getLsbD_eq
    intro b hb
    rw [BitVec.getLsbD_extractLsb', prioBit_assignBank hi s.ipc v j hb]
    split <;> simp
  show (if hasSource s.device j then
    ((assignBank s.ipc i.ipcReg (ipcMask s.device i.ipcReg) i.prioField v).get j.ipcReg).extractLsb' j.ipcLow 3
    else 0#3) = _
  rw [hfield, State.prio]
  by_cases hj : j = i
  · subst hj
    rw [if_pos hi, if_pos rfl, if_pos rfl]
  · simp only [if_neg hj]

/-! ### IPL and NSTDIS -/

theorem assign_ipl (s : State) (v : Word) : s.assign ⟨iplField, v⟩
    = { s with sr := accessWrite s.sr (iplField.replace s.sr v) (srWritable s.nstdis) 0x3400#16 0xFFFF#16 } := rfl

/-- SR after an assignment to IPL<2:0>, which NSTDIS makes read-only (10_state.md R28, R30). -/
theorem getLsbD_assign_ipl (s : State) (v : Word) {n : Nat} (hn : n < 16) :
    (s.assign ⟨iplField, v⟩).sr.getLsbD n
      = if s.nstdis = false ∧ 5 ≤ n ∧ n < 8 then v.getLsbD (n - 5) else s.sr.getLsbD n := by
  have hclearOnly : ∀ n < 16, 5 ≤ n ∧ n < 8 → (0x3400#16).getLsbD n = false := by decide
  have hwritable : ∀ nstdis, ∀ n < 16, ((srWritable nstdis).getLsbD n = true ∧ 5 ≤ n ∧ n < 8)
      ↔ (nstdis = false ∧ 5 ≤ n ∧ n < 8) := by decide
  rw [assign_ipl]
  show (accessWrite _ _ _ _ _).getLsbD n = _
  rw [getLsbD_accessWrite_replace iplField v hn (fun _ => rfl) (hclearOnly n hn)]
  simp only [iplField, Nat.reduceAdd, hwritable _ n hn]

theorem assign_ipl_writable {s : State} (h : s.nstdis = false) (v : Word) : s.assign ⟨iplField, v⟩
    = { s with sr := s.sr.extractLsb' 8 8 ++ v.extractLsb' 0 3 ++ s.sr.extractLsb' 0 5 } := by
  have hsr : (s.assign ⟨iplField, v⟩).sr = s.sr.extractLsb' 8 8 ++ v.extractLsb' 0 3 ++ s.sr.extractLsb' 0 5 := by
    refine (eq_append₃_iff (m := 8) (n := 3) (p := 5)).mpr ⟨?high, ?field, ?low⟩
    all_goals
      apply BitVec.eq_of_getLsbD_eq
      intro n hn
      rw [BitVec.getLsbD_extractLsb', BitVec.getLsbD_extractLsb', getLsbD_assign_ipl _ _ (by omega)]
    case high => rw [if_neg (by omega)]
    case field => rw [if_pos ⟨h, by omega, by omega⟩, Nat.add_sub_cancel_left, Nat.zero_add]
    case low => rw [if_neg (by omega)]
  rw [← hsr]
  rfl

theorem assign_ipl_readOnly {s : State} (h : s.nstdis = true) (v : Word) : s.assign ⟨iplField, v⟩ = s := by
  have hsr : (s.assign ⟨iplField, v⟩).sr = s.sr :=
    word_ext fun n hn => (getLsbD_assign_ipl s v hn).trans (if_neg (by simp [h]))
  calc s.assign ⟨iplField, v⟩
      = { s with sr := (s.assign ⟨iplField, v⟩).sr } := rfl
    _ = s := by rw [hsr]

/-- A refused clear of MATHERR changes no bit that is written back as it was read (61_traps.md R292). -/
theorem intcon1_written_back (s : State) (n : Nat) :
    (s.intcon1.getLsbD n || (decide (n = 4) && s.tflag .mathError && s.mathClearBlocked)) = s.intcon1.getLsbD n := by
  by_cases h4 : n = 4
  · subst h4
    rw [show s.tflag .mathError = s.intcon1.getLsbD 4 from rfl]
    cases s.intcon1.getLsbD 4 <;> simp
  · simp [h4]

/-- INTCON1 after an assignment to NSTDIS (10_state.md R38). -/
theorem assign_nstdis (s : State) (v : Word) :
    s.assign ⟨nstdisField, v⟩ = { s with intcon1 := setBit s.intcon1 15 (v.getLsbD 0) } := by
  have hintcon1 : (s.assign ⟨nstdisField, v⟩).intcon1 = setBit s.intcon1 15 (v.getLsbD 0) := by
    apply word_ext
    intro n hn
    show (s.writeIntcon1 (nstdisField.replace (s.readSfr .intcon1 _) v) 0xFFFF#16).intcon1.getLsbD n = _
    rw [getLsbD_writeIntcon1 _ _ _ _ hn, getLsbD_fieldReplace _ _ _ _ hn, getLsbD_readSfr_intcon1 _ _ _ hn,
      getLsbD_setBit _ _ _ _ (by decide), getLsbD_allOnes_word, decide_eq_true hn]
    by_cases h15 : n = 15
    · subst h15
      simp [nstdisField]
    · have hfield : ¬ (nstdisField.low ≤ n ∧ n < nstdisField.low + nstdisField.width) := by
        simp only [nstdisField]; omega
      rw [if_neg hfield, if_neg h15]
      by_cases h0 : n = 0
      · rw [if_pos (.inl h0)]
      · rw [if_neg (by simp [h0]), decide_eq_true (by omega), Bool.true_and, intcon1_written_back]
  rw [← hintcon1]; rfl

/-- An assignment in its slot writes the word that has the value in the field and the bits read elsewhere. -/
theorem assignStep_eq {a : Assignment} {s u : State} {new : Word}
    (hevents : applyEvents s.slot.events s.tickOver = .next u)
    (hnew : ∀ n, n < 16 → new.getLsbD n =
      if a.field.low ≤ n ∧ n < a.field.low + a.field.width then a.value.getLsbD (n - a.field.low)
      else (u.readSfr a.field.reg (sfrAddr u.device a.field.reg)).getLsbD n) :
    assignStep a s = .next (u.writeSfr a.field.reg new 0xFFFF#16) := by
  have hreplace : new = a.field.replace (u.readSfr a.field.reg (sfrAddr u.device a.field.reg)) a.value :=
    word_ext fun n hn => (hnew n hn).trans (getLsbD_fieldReplace _ _ _ n hn).symm
  unfold assignStep
  rw [hevents, hreplace]
  rfl

end Sys2Proof.Machine

namespace Sys2Proof.Claims

open Sys2Proof Sys2Proof.Machine

/-- Settles O48: each field by the lemma on its register. -/
theorem assignmentWritesOneField : Obligations.AssignmentWritesOneField := by
  intro s v
  refine ⟨fun i hi => ⟨?flag, ?enable, ?prio⟩, fun h => assign_ipl_writable h v, fun h => assign_ipl_readOnly h v,
    assign_nstdis s v, ?step⟩
  case flag =>
    rintro t rfl
    exact ⟨rfl, (flag_assign hi v i).trans (if_pos rfl), fun j hj => (flag_assign hi v j).trans (if_neg hj)⟩
  case enable =>
    rintro t rfl
    exact ⟨rfl, (en_assign hi v i).trans (if_pos rfl), fun j hj => (en_assign hi v j).trans (if_neg hj)⟩
  case prio =>
    rintro t rfl
    exact ⟨rfl, (prio_assign hi v i).trans (if_pos rfl), fun j hj => (prio_assign hi v j).trans (if_neg hj)⟩
  case step =>
    rintro a u old new hevents rfl hnew
    exact assignStep_eq hevents hnew

end Sys2Proof.Claims
end

section
/-! SUPPORT. The pc after an instruction, its countdown and its pops in the words of the statements, and the settlement
of RetfieResult (40_interrupt_instructions.md R154). -/

namespace Sys2Proof.Machine

/-- An even address is not changed by dropping its bit 0. -/
theorem and_mask_of_even {a : Word} (h : a.getLsbD 0 = false) : a &&& 0xFFFE#16 = a := by
  apply word_ext
  intro i hi
  rw [getLsbD_and_word, (by decide : ∀ i < 16, (0xFFFE#16).getLsbD i = decide (i ≠ 0)) i hi]
  by_cases h0 : i = 0
  · rw [h0, h, Bool.false_and]
  · rw [decide_eq_true h0, Bool.and_true]

/-- A write of W15 with an even value writes that register and nothing else. -/
theorem setSp_of_even {v : Word} (h : v.getLsbD 0 = false) (s : State) :
    s.setSp v = { s with w := s.w.set 15 v } := by
  show { s with w := s.w.set 15 (v &&& 0xFFFE#16) } = _
  rw [and_mask_of_even h]

/-- A restored status takes SRL from the high byte of the frame's second word, and IPL3 from its bit 7 (R154). -/
theorem restoreStatus_eq (hi : Word) (s : State) : s.restoreStatus hi =
    { s with sr := s.sr.extractLsb' 8 8 ++ hi.extractLsb' 8 8, corcon := setBit s.corcon 3 (hi.getLsbD 7) } := by
  have hhigh : (hi >>> 8).extractLsb' 0 8 = hi.extractLsb' 8 8 := by
    apply BitVec.eq_of_getLsbD_eq
    intro i _
    simp only [BitVec.getLsbD_extractLsb', BitVec.getLsbD_ushiftRight, Nat.zero_add]
  have hsr : replaceBits s.sr (hi >>> 8) 0x00FF#16 = s.sr.extractLsb' 8 8 ++ hi.extractLsb' 8 8 := by
    rw [replaceBits_low, hhigh]
  rw [← hsr]
  rfl

end Sys2Proof.Machine

namespace Sys2Proof.Claims

open Sys2Proof Sys2Proof.Machine

/-! ### The words of the statements -/

/-- A number wraps to the width of the pc as an address of 23 bits does (00_scope.md R7). -/
theorem wrapPc_ofNat (s : State) (n : Nat) : wrapPc s.device (BitVec.ofNat 23 n) = pcValue s n := by
  have hvalue : pcValue s n = BitVec.ofNat 23 (n % 2 ^ s.device.pcw) := by
    unfold pcValue
    rw [← BitVec.ofInt_natCast]
    push_cast
    rfl
  apply BitVec.eq_of_getLsbD_eq
  intro i hi
  rw [hvalue, getLsbD_wrapPc, BitVec.getLsbD_ofNat, BitVec.getLsbD_ofNat, Nat.testBit_mod_two_pow]
  exact Bool.and_left_comm _ _ _

theorem wrapPc_eq_pcValue (s : State) (a : PAddr) : wrapPc s.device a = pcValue s a.toNat := by
  rw [← wrapPc_ofNat, BitVec.ofNat_toNat, BitVec.setWidth_eq]

/-- The pc after an instruction of one word. -/
theorem advance_eq_nextPc (s : State) : s.advance 2 = { s with pc := nextPc s } := by
  have hsum : s.pc + 2#23 = BitVec.ofNat 23 (s.pc.toNat + 2) := by
    rw [BitVec.ofNat_add, BitVec.ofNat_toNat, BitVec.setWidth_eq]
  show { s with pc := wrapPc s.device (s.pc + 2#23) } = _
  rw [hsum, wrapPc_ofNat]
  rfl

/-- Memory reads alike in two states with the same bytes since the same Reset. -/
theorem memoryKept_of_mem {s t : State} (hmem : t.mem = s.mem) (hepoch : t.epoch = s.epoch) : MemoryKept s t := by
  intro a
  unfold State.ramByte
  rw [hmem, hepoch]

theorem countDown_eq_countedBy (c : Nat) (s : State) : s.countDown c = countedBy c s := by
  simp [State.countDown, countedBy]

/-- An instruction that does not write DISICNT ends with the countdown of its kind (R152). -/
theorem countedDown_finish (k : StepKind) (s : State) : CountedDown k s (s.finish k false) :=
  ⟨s.drawCycles k, drawCycles_mem k s, countDown_eq_countedBy _ s⟩

theorem wordBad_of_ok {s : State} {a : DAddr} (h : WordOk s a) : s.wordBad a = false := by
  obtain ⟨heven, himpl⟩ := h
  rw [State.wordBad, heven, himpl]
  rfl

/-- A word read at a good address gives the word there and changes nothing. -/
theorem readWord_of_ok {s : State} {a : DAddr} (h : WordOk s a) : s.readWord a = (wordAt s a, s) :=
  if_neg (by rw [wordBad_of_ok h]; decide)

/-! ### Pops -/

theorem sp_popped (s : State) : (popped s).sp = s.sp - 2#16 := vget_set_same s.w 15 _ (by decide) 15 rfl

/-- A pop from a good address reads the word there, W15 already moved, and sets STKERR by its checks (61_traps.md R281
to R283). -/
theorem popWord_of_ok {s : State} (h : WordOk s (s.sp - 2#16)) : s.popWord = (topWord s, popped s) := by
  have hread : (s.setSp (s.sp - 2#16)).readWord (s.sp - 2#16)
      = (topWord s, { s with w := s.w.set 15 (s.sp - 2#16) }) := by
    rw [setSp_of_even h.1]
    exact readWord_of_ok (s := { s with w := s.w.set 15 (s.sp - 2#16) }) h
  calc s.popWord
      = (((s.setSp (s.sp - 2#16)).readWord (s.sp - 2#16)).1,
          ((s.setSp (s.sp - 2#16)).readWord (s.sp - 2#16)).2.setTflagIf
            (s.stackBad (s.sp - 2#16) || decide (s.sp.toNat < 2)) .stackError) := rfl
    _ = (topWord s, popped s) := by rw [hread]; rfl

/-- The address of the second pop. -/
theorem sp_popped_sub (s : State) : (popped s).sp - 2#16 = s.sp - 4#16 := by
  rw [sp_popped, BitVec.sub_sub]
  rfl

theorem popFrame_of_ok {s : State} (hfirst : WordOk s (s.sp - 2#16)) (hsecond : WordOk s (s.sp - 4#16)) :
    s.popFrame = (topWord s, topWord (popped s), popped (popped s)) := by
  have hnext : WordOk (popped s) ((popped s).sp - 2#16) := by
    rw [sp_popped_sub]
    exact hsecond
  simp only [State.popFrame, popWord_of_ok hfirst, popWord_of_ok hnext]

theorem returnBad_of_ok {s : State} (hfirst : WordOk s (s.sp - 2#16)) (hsecond : WordOk s (s.sp - 4#16)) :
    s.returnBad = false := by
  have hnext : s.wordBad (s.sp - 2#16 - 2#16) = false := by
    rw [BitVec.sub_sub]
    exact wordBad_of_ok hsecond
  rw [State.returnBad, wordBad_of_ok hfirst, hnext]
  rfl

/-- The pc of the two words on top of the stack, written in any state of the same device. -/
theorem setPc_frameTarget {s t : State} (hdevice : t.device = s.device) :
    t.setPc (frameTarget (topWord s) (topWord (popped s))) = { t with pc := framePc s } := by
  show { t with pc := wrapPc t.device _ } = _
  rw [hdevice, wrapPc_eq_pcValue]
  rfl

/-! ### RETFIE -/

/-- The state that RETFIE leaves before its countdown. -/
def returnedFromException (s : State) : State :=
  { popped (popped s) with
    sr := s.sr.extractLsb' 8 8 ++ (topWord s).extractLsb' 8 8
    corcon := setBit s.corcon 3 ((topWord s).getLsbD 7)
    pc := framePc s }

theorem exec_retfie_of_ok {s : State} (hfirst : WordOk s (s.sp - 2#16)) (hsecond : WordOk s (s.sp - 4#16)) :
    exec .retfie s = .next ((returnedFromException s).finish .retfie false) := by
  have hreturned : ((popped (popped s)).restoreStatus (topWord s)).setPc (frameTarget (topWord s) (topWord (popped s)))
      = returnedFromException s := by
    rw [restoreStatus_eq]
    exact setPc_frameTarget rfl
  calc exec .retfie s
      = settle s.returnBad s (((s.popFrame.2.2.restoreStatus s.popFrame.1).setPc
          (frameTarget s.popFrame.1 s.popFrame.2.1)).finish .retfie false) := rfl
    _ = settle false s ((returnedFromException s).finish .retfie false) := by
        rw [returnBad_of_ok hfirst hsecond, popFrame_of_ok hfirst hsecond, hreturned]

/-- Settles O11: both pops read good addresses, so that RETFIE ends with the restored state and its countdown. -/
theorem retfieResult : Obligations.RetfieResult := fun s hfirst hsecond =>
  ⟨_, exec_retfie_of_ok hfirst hsecond, memoryKept_of_mem rfl rfl,
    countedDown_finish .retfie (returnedFromException s)⟩

end Sys2Proof.Claims
end

section
/-! SUPPORT. DISICNT loaded by DISI and written by software, and the settlements of DisiResult and WriteDisicnt
(40_interrupt_instructions.md R151, R153). -/

namespace Sys2Proof.Machine

/-- A value whose bits are those written, where the access covers them, and the count's elsewhere is what a write of
DISICNT merges. -/
theorem mergedCount_eq {count n : BitVec 14} {v be : Word}
    (hn : ∀ i, i < 14 → n.getLsbD i = if be.getLsbD i then v.getLsbD i else count.getLsbD i) :
    (replaceBits (count.zeroExtend 16) v be).extractLsb' 0 14 = n := by
  apply BitVec.eq_of_getLsbD_eq
  intro i hi
  rw [hn i hi, BitVec.getLsbD_extractLsb', Nat.zero_add, getLsbD_replaceBits, BitVec.getLsbD_setWidth]
  simp [hi, show i < 16 by omega]

/-- A write of DISICNT that merges to `n` (R153). -/
theorem writeDisicnt_of_merged {s : State} {v be : Word} {n : BitVec 14}
    (hn : (replaceBits (s.disicnt.zeroExtend 16) v be).extractLsb' 0 14 = n) :
    s.writeSfr .disicnt v be = { s with
      disicnt := if s.disiActive then n else 0#14
      disicntUnspecified := s.disicntUnspecified || (!s.disiActive && n != 0#14)
      intcon2 := if s.disiActive then setBit s.intcon2 14 (n != 0#14) else s.intcon2 } := by
  rw [← hn]
  rfl

end Sys2Proof.Machine

namespace Sys2Proof.Claims

open Sys2Proof Sys2Proof.Machine

/-- Settles O19: the loads of DISI and the move of the pc, with no countdown after them. -/
theorem disiResult : Obligations.DisiResult := fun _ _ =>
  ⟨_, rfl, memoryKept_of_mem rfl rfl, advance_eq_nextPc _⟩

/-- Settles O45: inside a period the merged value is loaded, outside one it is 0 or leaves DISICNT unspecified. -/
theorem writeDisicnt : Obligations.WriteDisicnt := by
  intro s v be n hn
  have hwrite := writeDisicnt_of_merged (mergedCount_eq hn)
  refine ⟨fun hactive => ?period, fun hactive hzero => ?zero, fun hactive hne => ?nonzero⟩
  case period => simp [hwrite, hactive]
  case zero => simp [hwrite, hactive, hzero]
  case nonzero => simp [hwrite, hactive, hne]

end Sys2Proof.Claims
end

section
/-! SUPPORT. The pc of jumps and returns, and the settlements of NopResult, JumpResult, ReturnResult and PowerSaveResult
(41_referenced_instructions.md R171 to R175). -/

namespace Sys2Proof.Claims

open Sys2Proof Sys2Proof.Machine

/-! ### Jumps -/

/-- An integer wraps to the width of the pc as the address of 23 bits that it is (00_scope.md R7): some natural number
has its residues by both widths. -/
theorem wrapPc_ofInt (s : State) (n : Int) : wrapPc s.device (BitVec.ofInt 23 n) = pcValue s n := by
  obtain ⟨m, hm⟩ : ∃ m : Nat, (m : Int) = n % 2 ^ (23 + s.device.pcw) :=
    ⟨_, Int.toNat_of_nonneg (Int.emod_nonneg _ (by positivity))⟩
  have haddress : BitVec.ofInt 23 n = BitVec.ofNat 23 m := by
    apply BitVec.eq_of_toNat_eq
    rw [← BitVec.ofInt_natCast, BitVec.toNat_ofInt, BitVec.toNat_ofInt, hm, Nat.cast_pow, Nat.cast_ofNat,
      Int.emod_emod_of_dvd n (pow_dvd_pow 2 (Nat.le_add_right 23 _))]
  have hvalue : pcValue s m = pcValue s n := by
    unfold pcValue
    rw [hm, Int.emod_emod_of_dvd n (pow_dvd_pow 2 (Nat.le_add_left _ 23))]
  rw [haddress, wrapPc_ofNat, hvalue]

/-- The target of BRA as a number (30_encoding.md R134). -/
theorem braTarget_eq_ofInt (pc : PAddr) (offset : BitVec 16) :
    braTarget pc offset = BitVec.ofInt 23 (pc.toNat + 2 + 2 * offset.toInt) := by
  rw [BitVec.ofInt_add, BitVec.ofInt_add, BitVec.ofInt_mul, BitVec.ofInt_natCast, BitVec.ofNat_toNat,
    BitVec.setWidth_eq]
  rfl

/-- An even target of GOTO is not changed by dropping its bit 0. -/
theorem gotoTarget_of_even {target : PAddr} (h : target.getLsbD 0 = false) : target &&& 0x7FFFFE#23 = target := by
  apply BitVec.eq_of_getLsbD_eq
  intro i hi
  rw [BitVec.getLsbD_and, (by decide : ∀ i < 23, (0x7FFFFE#23).getLsbD i = decide (i ≠ 0)) i hi]
  by_cases h0 : i = 0
  · rw [h0, h, Bool.false_and]
  · rw [decide_eq_true h0, Bool.and_true]

/-- A jump to an implemented address writes the pc, and the countdown runs. -/
theorem jumpTo_of_implemented {k : StepKind} {s : State} {target : PAddr} {n : Int}
    (htarget : wrapPc s.device target = pcValue s n) (himpl : progImplemented s.device (pcValue s n) = true) :
    jumpTo k target s = .next (State.finish k false { s with pc := pcValue s n }) := by
  rw [← htarget] at himpl ⊢
  exact if_pos himpl

theorem exec_goto_of_implemented {target : PAddr} {s : State} (heven : target.getLsbD 0 = false)
    (himpl : progImplemented s.device (pcValue s target.toNat) = true) :
    exec (.goto target) s = .next (State.finish .goto false { s with pc := pcValue s target.toNat }) := by
  refine jumpTo_of_implemented ?_ himpl
  rw [gotoTarget_of_even heven, wrapPc_eq_pcValue]

theorem exec_bra_of_implemented {offset : BitVec 16} {s : State}
    (himpl : progImplemented s.device (pcValue s (s.pc.toNat + 2 + 2 * offset.toInt)) = true) :
    exec (.bra offset) s
      = .next (State.finish .bra false { s with pc := pcValue s (s.pc.toNat + 2 + 2 * offset.toInt) }) := by
  refine jumpTo_of_implemented ?_ himpl
  rw [braTarget_eq_ofInt, wrapPc_ofInt]

/-- Settles O8: both targets are wrapped to the width of the pc, and the jump is to an implemented address. -/
theorem jumpResult : Obligations.JumpResult := fun _ _ _ =>
  ⟨fun heven himpl =>
    ⟨_, exec_goto_of_implemented heven himpl, countedDown_finish .goto _, memoryKept_of_mem rfl rfl⟩,
  fun himpl => ⟨_, exec_bra_of_implemented himpl, countedDown_finish .bra _, memoryKept_of_mem rfl rfl⟩⟩

/-! ### RETURN -/

theorem exec_ret_of_ok {s : State} (hfirst : WordOk s (s.sp - 2#16)) (hsecond : WordOk s (s.sp - 4#16)) :
    exec .ret s = .next (State.finish .ret false { popped (popped s) with pc := framePc s }) := by
  calc exec .ret s
      = settle s.returnBad s
          ((s.popFrame.2.2.setPc (frameTarget s.popFrame.1 s.popFrame.2.1)).finish .ret false) := rfl
    _ = settle false s (State.finish .ret false { popped (popped s) with pc := framePc s }) := by
        rw [returnBad_of_ok hfirst hsecond, popFrame_of_ok hfirst hsecond]
        exact congrArg (fun t => settle false s (State.finish .ret false t)) (setPc_frameTarget rfl)

/-- Settles O10: both pops read good addresses, so that RETURN ends with the popped pc and its countdown. -/
theorem returnResult : Obligations.ReturnResult := fun _ hfirst hsecond =>
  ⟨_, exec_ret_of_ok hfirst hsecond, memoryKept_of_mem rfl rfl, countedDown_finish .ret _⟩

/-! ### NOP and PWRSAV -/

theorem exec_nop (x : BitVec 16) (s : State) :
    exec (.nop x) s = .next (State.finish .nop false { s with pc := nextPc s }) := by
  rw [← advance_eq_nextPc]
  rfl

/-- Settles O7: the move of the pc and the countdown. -/
theorem nopResult : Obligations.NopResult := fun x s =>
  ⟨_, exec_nop x s, countedDown_finish .nop _, memoryKept_of_mem rfl rfl⟩

theorem exec_pwrsav_of_noPeriod (lit : BitVec 1) {s : State} (hd : s.disiActive = false) :
    exec (.pwrsav lit) s = .next (State.finish .pwrsav false
      { s with pc := nextPc s, mode := if lit = 0#1 then .sleep else .idle }) := by
  calc exec (.pwrsav lit) s
      = .next (State.finish .pwrsav false { s.advance 2 with mode := if lit = 0#1 then .sleep else .idle }) :=
        if_neg (by rw [hd]; decide)
    _ = _ := by rw [advance_eq_nextPc]

theorem exec_pwrsav_of_period (lit : BitVec 1) {s : State} (hd : s.disiActive = true) :
    exec (.pwrsav lit) s = .refused .pwrsavDuringDisi := if_pos hd

/-- Settles O21: PWRSAV by whether a DISI period runs. -/
theorem powerSaveResult : Obligations.PowerSaveResult := fun lit _ =>
  ⟨fun hd => ⟨_, exec_pwrsav_of_noPeriod lit hd, memoryKept_of_mem rfl rfl, countedDown_finish .pwrsav _⟩,
    exec_pwrsav_of_period lit⟩

end Sys2Proof.Claims
end

section
/-! SUPPORT. Loads of working registers, and the settlements of MovLiteralResult, MovFileToRegisterResult and
ClearWregResult (41_referenced_instructions.md R178, R179, R181). -/

namespace Sys2Proof.Claims

open Sys2Proof Sys2Proof.Machine

/-- A register load in the words of the statements (61_traps.md R281). -/
theorem loaded_loadW (d : WReg) (v : Word) (s : State) : Loaded s d v (s.loadW d v) :=
  (loadW_eq d v s).imp_right fun ⟨hd, hlow, e⟩ => ⟨hd, hlow, by rw [e]; rfl⟩

/-- The pc after an instruction of one word whose effects so far leave the pc and the device alone. -/
theorem advance_of_frame {s q : State} (frame : DataFrame s q) : q.advance 2 = { q with pc := nextPc s } := by
  have hpc : nextPc q = nextPc s := by
    unfold nextPc pcValue
    rw [frame.pc, frame.device]
  rw [advance_eq_nextPc, hpc]

theorem exec_movLit (lit : Word) (d : WReg) (s : State) :
    exec (.movLit lit d) s = .next (State.finish .movLit false { s.loadW d lit with pc := nextPc s }) := by
  rw [← advance_of_frame (loadW_frame d lit s)]
  rfl

/-- Settles O12: the load, the move of the pc and the countdown. -/
theorem movLiteralResult : Obligations.MovLiteralResult := fun lit d s =>
  ⟨_, exec_movLit lit d s, memoryKept_of_mem rfl rfl, _, loaded_loadW d lit s, countedDown_finish .movLit _⟩

theorem exec_movToReg_of_ok {f : DAddr} (d : WReg) {s : State} (hf : WordOk s f) :
    exec (.movToReg f d) s
      = .next (State.finish .movToReg false { s.loadW d (wordAt s f) with pc := nextPc s }) := by
  calc exec (.movToReg f d) s
      = settle (s.wordBad f) s
          ((((s.readWord f).2.loadW d (s.readWord f).1).advance 2).finish .movToReg false) := rfl
    _ = settle false s (State.finish .movToReg false { s.loadW d (wordAt s f) with pc := nextPc s }) := by
        rw [wordBad_of_ok hf, readWord_of_ok hf, advance_of_frame (loadW_frame d _ s)]

/-- Settles O13: the read of a good address gives the word that is loaded. -/
theorem movFileToRegisterResult : Obligations.MovFileToRegisterResult := fun f d s hf =>
  ⟨_, exec_movToReg_of_ok d hf, memoryKept_of_mem rfl rfl, _, loaded_loadW d (wordAt s f) s,
    countedDown_finish .movToReg _⟩

/-! ### CLR WREG -/

/-- A clear of the low byte keeps the high one. -/
theorem and_highByte (w : Word) : w &&& 0xFF00#16 = w.extractLsb' 8 8 ++ 0#8 := by
  have hclear : w &&& 0xFF00#16 = replaceBits w 0#16 0x00FF#16 := by
    rw [replaceBits, BitVec.zero_and, BitVec.or_zero]
    rfl
  rw [hclear, replaceBits_low]
  rfl

/-- W0 is no stack pointer: its load has no check. -/
theorem loadW_zero (v : Word) (s : State) : s.loadW 0#4 v = { s with w := s.w.set 0 v } := by
  rcases loadW_eq 0#4 v s with e | ⟨h15, -⟩
  · rw [e]; rfl
  · exact absurd h15 (by decide)

theorem exec_clearWreg (byteOp : Bool) (f : BitVec 13) (s : State) :
    exec (.clr byteOp false f) s = .next (State.finish .clr false { s with
      pc := nextPc s
      w := s.w.set 0 (if byteOp then (s.w.get 0).extractLsb' 8 8 ++ 0#8 else 0#16) }) := by
  let v : Word := if byteOp then s.getW 0#4 &&& 0xFF00#16 else 0#16
  have hv : v = if byteOp then (s.w.get 0).extractLsb' 8 8 ++ 0#8 else 0#16 := by
    show (if byteOp then s.getW 0#4 &&& 0xFF00#16 else 0#16) = _
    rw [and_highByte]
    rfl
  calc exec (.clr byteOp false f) s
      = .next (((s.loadW 0#4 v).advance 2).finish .clr false) := rfl
    _ = .next (State.finish .clr false { s with pc := nextPc s, w := s.w.set 0 v }) := by
        rw [advance_of_frame (loadW_frame _ v s), loadW_zero]
    _ = _ := by rw [hv]

/-- Settles O16: a load of W0, the move of the pc and the countdown. -/
theorem clearWregResult : Obligations.ClearWregResult := fun byteOp f s =>
  ⟨_, exec_clearWreg byteOp f s, memoryKept_of_mem rfl rfl, countedDown_finish .clr _⟩

end Sys2Proof.Claims
end

section
/-! SUPPORT. Stores through the data space, to memory or a register, and the settlements of MovRegisterToFileResult,
ClearFileResult, PushResult and PopResult (41_referenced_instructions.md R176 to R178, R180). -/

namespace Sys2Proof.Machine

/-! ### W15 -/

/-- A store keeps W15 even, also one that reaches W15, whose bit 0 is dropped (10_state.md R24). -/
theorem even_sp_putWord {s : State} (h : s.sp.getLsbD 0 = false) (a : DAddr) (v : Word) :
    (s.putWord a v).sp.getLsbD 0 = false := by
  rcases putWord_eq a v s with ⟨r, -, e⟩ | ⟨-, e⟩ <;> rw [e]
  · cases r with
    | w15 =>
      rw [show (s.writeSfr .w15 v 0xFFFF#16).sp = replaceBits s.sp v 0xFFFF#16 &&& 0xFFFE#16 from sp_setSp _ s,
        getLsbD_and_word]
      exact Bool.and_false _
    | splim | sr | corcon | disicnt | intcon1 | intcon2 | inttreg | rcon | osccon | ifs | iec | ipc => exact h
  · exact h

/-- Two above an even address is even. -/
theorem even_word_add_two {a : Word} (h : a.getLsbD 0 = false) : (a + 2#16).getLsbD 0 = false := by
  rw [BitVec.getLsbD, Nat.testBit_zero, decide_eq_false_iff_not] at h ⊢
  rw [BitVec.toNat_add, BitVec.toNat_ofNat]
  omega

end Sys2Proof.Machine

namespace Sys2Proof.Claims

open Sys2Proof Sys2Proof.Machine

/-! ### Stores -/

/-- A word stored to memory, little-endian (20_memory.md R109). -/
theorem stored_setRamWord (s : State) (a : DAddr) (v : Word) : Stored s (s.setRamWord a v) a v :=
  ⟨ramByte_setRamWord_low s a v, ramByte_setRamWord_high s a v, fun b => ramByte_setRamWord_other s a b v⟩

theorem storedByte_setRamByte (s : State) (a : DAddr) (v : Byte) : StoredByte s (s.setRamByte a v) a v :=
  ⟨ramByte_setRamByte_same s a v, fun b => ramByte_setRamByte_other s a b v⟩

/-- A register write changes no byte of memory. -/
theorem memoryKept_writeSfr (r : Sfr) (v be : Word) (s : State) : MemoryKept s (s.writeSfr r v be) :=
  have ⟨frame, hmem⟩ := writeSfr_frame r v be s
  memoryKept_of_mem hmem frame.epoch

/-- A word write at a good address in the words of the statements. -/
theorem wrote_putWord (s : State) (a : DAddr) (v : Word) : Wrote s a v (s.putWord a v) := by
  unfold Wrote
  rcases putWord_eq a v s with ⟨r, hr, e⟩ | ⟨hr, e⟩ <;> rw [hr, e]
  · exact ⟨rfl, memoryKept_writeSfr r v _ s⟩
  · exact ⟨stored_setRamWord s a v, rfl⟩

/-- A byte write at a good address in the words of the statements. -/
theorem wroteByte_putByte (s : State) (a : DAddr) (v : Byte) : WroteByte s a v (s.putByte a v) := by
  unfold WroteByte
  rcases putByte_eq a v s with ⟨r, hr, e⟩ | ⟨hr, e⟩ <;> rw [wordAddr] at hr <;> rw [hr, e]
  · exact ⟨rfl, memoryKept_writeSfr r _ _ s⟩
  · exact ⟨storedByte_setRamByte s a v, rfl⟩

/-- A word write at a good address that nothing inhibits is done. -/
theorem writeWord_of_ok {s : State} {a : DAddr} (h : WordOk s a) (v : Word) :
    s.writeWord false a v = s.putWord a v := by
  simp [State.writeWord, wordBad_of_ok h]

/-- An instruction that stores ends with its countdown, unless the store reached DISICNT (R152, R153). -/
theorem countedAfterWrite_finish (k : StepKind) (s : State) (a : DAddr) (u : State) :
    CountedAfterWrite k s a u (u.finish k (s.hitsDisicnt a)) := by
  unfold CountedAfterWrite
  have hhits : s.hitsDisicnt a = true ↔ sfrAt s.device (a &&& 0xFFFE#16) = some .disicnt := beq_iff_eq
  split
  · next h => rw [hhits.mpr h]; rfl
  · next h => rw [Bool.eq_false_of_not_eq_true (mt hhits.mp h)]; exact countedDown_finish k u

/-! ### MOV Wns,f and CLR -/

/-- A word store to a good address, the move of the pc and the countdown are the whole instruction. -/
theorem wordStore_of_ok {k : StepKind} {a : DAddr} {s : State} (v : Word) (h : WordOk s a) :
    settle (s.wordBad a) s
        (((s.writeWord false a v).advance 2).finish k (!s.wordBad a && s.hitsDisicnt a))
      = .next (State.finish k (s.hitsDisicnt a) { s.putWord a v with pc := nextPc s }) := by
  rw [wordBad_of_ok h, writeWord_of_ok h, advance_of_frame (putWord_frame a v s)]
  rfl

theorem byteStore_of_ok {k : StepKind} {a : DAddr} {s : State} (v : Byte)
    (h : dataImplemented s.device a = true) :
    settle (s.byteBad a) s
        (((s.writeByte a v).advance 2).finish k (!s.byteBad a && s.hitsDisicnt a))
      = .next (State.finish k (s.hitsDisicnt a) { s.putByte a v with pc := nextPc s }) := by
  have hgood : s.byteBad a = false := by rw [State.byteBad, h]; rfl
  have hwrite : s.writeByte a v = s.putByte a v := by simp [State.writeByte, hgood]
  rw [hgood, hwrite, advance_of_frame (putByte_frame a v s)]
  rfl

/-- Settles O14: the store of the register, the move of the pc and the countdown. -/
theorem movRegisterToFileResult : Obligations.MovRegisterToFileResult := fun ws f s hf =>
  ⟨_, wordStore_of_ok (s.getW ws) hf, _, wrote_putWord s f (s.getW ws), countedAfterWrite_finish .movToFile s f _⟩

/-- Settles O15: a word or a byte of zeros is stored. -/
theorem clearFileResult : Obligations.ClearFileResult := fun _ s =>
  ⟨fun hf => ⟨_, wordStore_of_ok 0#16 hf, _, wrote_putWord s _ 0#16, countedAfterWrite_finish .clr s _ _⟩,
    fun hf => ⟨_, byteStore_of_ok 0#8 hf, _, wroteByte_putByte s _ 0#8, countedAfterWrite_finish .clr s _ _⟩⟩

/-! ### PUSH and POP -/

/-- A push to a good address: the store, then W15 and the checks (61_traps.md R281 to R284). -/
theorem pushWord_of_ok {s : State} (h : WordOk s s.sp) (v : Word) :
    s.pushWord false v = pushed s (s.putWord s.sp v) := by
  have heven : ((s.putWord s.sp v).sp + 2#16).getLsbD 0 = false := even_word_add_two (even_sp_putWord h.1 s.sp v)
  calc s.pushWord false v
      = ((s.writeWord false s.sp v).setTflagIf
          (s.stackBad s.sp || decide (0xFFFE ≤ (s.writeWord false s.sp v).sp.toNat)) .stackError).setSp
          ((s.writeWord false s.sp v).sp + 2#16) := rfl
    _ = pushed s (s.putWord s.sp v) := by
        rw [writeWord_of_ok h, setSp_of_even heven]
        rfl

theorem pushed_frame (s q : State) : DataFrame q (pushed s q) := by constructor <;> rfl

theorem popped_frame (s : State) : DataFrame s (popped s) := by constructor <;> rfl

theorem exec_push_of_ok {f : DAddr} {s : State} (hf : WordOk s f) (hsp : WordOk s s.sp) :
    exec (.push f) s = .next (State.finish .push (s.hitsDisicnt s.sp)
      { pushed s (s.putWord s.sp (wordAt s f)) with pc := nextPc s }) := by
  have frame := (putWord_frame s.sp (wordAt s f) s).trans (pushed_frame s _)
  have hgood : (s.wordBad f || s.wordBad s.sp) = false := by rw [wordBad_of_ok hf, wordBad_of_ok hsp]; rfl
  calc exec (.push f) s
      = settle (s.wordBad f || s.wordBad s.sp) s
          ((((s.readWord f).2.pushWord (s.wordBad f || s.wordBad s.sp) (s.readWord f).1).advance 2).finish .push
            (!(s.wordBad f || s.wordBad s.sp) && s.hitsDisicnt s.sp)) := rfl
    _ = _ := by
        rw [hgood, readWord_of_ok hf, pushWord_of_ok hsp, advance_of_frame frame]
        rfl

/-- Settles O17: the word read at f is stored by the push. -/
theorem pushResult : Obligations.PushResult := fun f s hf hsp =>
  ⟨_, exec_push_of_ok hf hsp, _, wrote_putWord s s.sp (wordAt s f), countedAfterWrite_finish .push s s.sp _⟩

theorem exec_pop_of_ok {f : DAddr} {s : State} (hsp : WordOk s (s.sp - 2#16)) (hf : WordOk s f) :
    exec (.pop f) s = .next (State.finish .pop (s.hitsDisicnt f)
      { (popped s).putWord f (topWord s) with pc := nextPc s }) := by
  have frame := (popped_frame s).trans (putWord_frame f (topWord s) (popped s))
  have hgood : (s.wordBad (s.sp - 2#16) || s.wordBad f) = false := by
    rw [wordBad_of_ok hsp, wordBad_of_ok hf]; rfl
  calc exec (.pop f) s
      = settle (s.wordBad (s.sp - 2#16) || s.wordBad f) s
          (((s.popWord.2.writeWord (s.wordBad (s.sp - 2#16) || s.wordBad f) f s.popWord.1).advance 2).finish .pop
            (!(s.wordBad (s.sp - 2#16) || s.wordBad f) && s.hitsDisicnt f)) := rfl
    _ = _ := by
        rw [hgood, popWord_of_ok hsp, writeWord_of_ok (s := popped s) hf, advance_of_frame frame]
        rfl

/-- Settles O18: the word popped is written at f, W15 moved and the checks made before. -/
theorem popResult : Obligations.PopResult := fun f s hsp hf =>
  ⟨_, exec_pop_of_ok hsp hf, _, wrote_putWord (popped s) f (topWord s), countedAfterWrite_finish .pop s f _⟩

end Sys2Proof.Claims
end

section
/-! SUPPORT. The flags that the events of a source and of a pin set (60_exceptions.md R204, R206), and the settlement of
SourceAndPinEvents. -/

namespace Sys2Proof.Machine

/-- The flag of each source after source `i` has set its own. -/
theorem sourceBit_withFlag (d : Device) (i j : Irq) (f : Vector Word 5) :
    (hasSource d j && ((withFlag d i f).get j.reg).getLsbD j.bit)
      = (hasSource d j && (f.get j.reg).getLsbD j.bit || (hasSource d i && decide (i = j))) := by
  have hsame : (decide (j.reg = i.reg) && decide (j.bit = i.bit)) = decide (i = j) := by
    rw [← Bool.decide_and, decide_eq_decide, irq_eq_iff]
    exact eq_comm
  rw [getLsbD_withFlag, Bool.and_assoc, hsame]
  by_cases hij : i = j
  · subst hij
    cases hasSource d i <;> simp
  · simp [hij]

theorem flag_setFlag (s : State) (i j : Irq) :
    (s.setFlag i).flag j = (s.flag j || (hasSource s.device i && decide (i = j))) :=
  sourceBit_withFlag s.device i j s.ifs

/-- The pin goes from the level that INTkEP names to the other one (R206). -/
def State.selectedEdge (s : State) (k : Fin 5) (level : Bool) : Bool :=
  if s.edgePolarity k then s.pins.getLsbD k.val && !level else !s.pins.getLsbD k.val && level

theorem selectedEdge_iff (s : State) (k : Fin 5) (level : Bool) :
    s.selectedEdge k level = true ↔ s.pins.getLsbD k.val ≠ level ∧ level = !s.intcon2.getLsbD k.val := by
  have hcases : ∀ polarity prev level : Bool,
      (if polarity then prev && !level else !prev && level) = true ↔ prev ≠ level ∧ level = !polarity := by decide
  exact hcases _ _ _

theorem pinEvent_eq (s : State) (k : Fin 5) (level : Bool) :
    s.pinEvent k level = { (if s.selectedEdge k level then s.setFlag (extIrq k) else s) with
      pins := (s.pins &&& ~~~(1#5 <<< k.val)) ||| (if level then 1#5 <<< k.val else 0#5) } := by
  have hedge : s.pinEvent k level = { s with
      ifs := if s.selectedEdge k level then withFlag s.device (extIrq k) s.ifs else s.ifs
      pins := (s.pins &&& ~~~(1#5 <<< k.val)) ||| (if level then 1#5 <<< k.val else 0#5) } := rfl
  rw [hedge]
  split <;> rfl

/-- An event of a pin sets its flag on the selected edge and on no other change. -/
theorem flag_pinEvent (s : State) (k : Fin 5) (level : Bool) (j : Irq) :
    (s.pinEvent k level).flag j
      = (s.flag j || (s.selectedEdge k level && (hasSource s.device (extIrq k) && decide (extIrq k = j)))) := by
  rw [pinEvent_eq]
  cases s.selectedEdge k level
  · simp [State.flag]
  · rw [Bool.true_and, ← flag_setFlag]
    rfl

/-- The level of a pin is remembered for its next change. -/
theorem pins_pinEvent (s : State) (k m : Fin 5) (level : Bool) :
    (s.pinEvent k level).pins.getLsbD m.val = if m = k then level else s.pins.getLsbD m.val := by
  have hbit : (1#5 <<< k.val).getLsbD m.val = decide (m = k) :=
    (by decide : ∀ k m : Fin 5, (1#5 <<< k.val).getLsbD m.val = decide (m = k)) k m
  have hset : (if level then 1#5 <<< k.val else 0#5).getLsbD m.val = (level && decide (m = k)) := by
    cases level
    · exact BitVec.getLsbD_zero
    · exact hbit
  show ((s.pins &&& ~~~(1#5 <<< k.val)) ||| (if level then 1#5 <<< k.val else 0#5)).getLsbD m.val = _
  rw [BitVec.getLsbD_or, BitVec.getLsbD_and, BitVec.getLsbD_not, hbit, hset, decide_eq_true m.isLt]
  by_cases hmk : m = k <;> simp [hmk]

end Sys2Proof.Machine

namespace Sys2Proof.Claims

open Sys2Proof Sys2Proof.Machine

/-- Settles O31: a source sets the bit that is its own, and a pin that of its source on the selected edge. -/
theorem sourceAndPinEvents : Obligations.SourceAndPinEvents := by
  intro s i j k m level
  refine ⟨⟨s.setFlag i, rfl, rfl, ?fire⟩, s.pinEvent k level, rfl, rfl, pins_pinEvent s k m level, ?pin⟩
  case fire =>
    rw [flag_setFlag]
    simp [and_comm]
  case pin =>
    rw [flag_pinEvent, ← extIrq_eq, ← selectedEdge_iff]
    simp only [Bool.or_eq_true, Bool.and_eq_true, decide_eq_true_eq]
    constructor
    · rintro (hflag | ⟨hedge, hhas, rfl⟩)
      · exact .inl hflag
      · exact .inr ⟨rfl, hhas, hedge⟩
    · rintro (hflag | ⟨rfl, hhas, hedge⟩)
      · exact .inl hflag
      · exact .inr ⟨hedge, hhas, rfl⟩

end Sys2Proof.Claims
end

section
/-! SUPPORT. Which requests are eligible and which of them wins (60_exceptions.md R212 to R214), and the settlements of
Eligibility and WinnerOfArbitration. -/

namespace Sys2Proof.Machine

/-! ### Eligibility -/

theorem zeroExtend_prio_toNat (p : BitVec 3) : (p.zeroExtend 4).toNat = p.toNat :=
  BitVec.toNat_setWidth_of_le (by decide)

theorem eligible_iff (s : State) (i : Irq) : s.eligible i = true ↔
    s.flag i = true ∧ s.en i = true ∧ s.cpuIpl.toNat < (s.arbPrio i).toNat
      ∧ ¬ (s.disiActive = true ∧ (s.arbPrio i).toNat ≤ 6) := by
  have habove : s.cpuIpl.ult ((s.arbPrio i).zeroExtend 4) = decide (s.cpuIpl.toNat < (s.arbPrio i).toNat) := by
    rw [BitVec.ult, zeroExtend_prio_toNat]
  have hmasked : (s.arbPrio i).ule 6#3 = decide ((s.arbPrio i).toNat ≤ 6) := rfl
  rw [State.eligible, habove, hmasked]
  cases s.disiActive <;> simp [and_assoc]

theorem trapEligible_iff (s : State) (t : Trap) :
    s.trapEligible t = true ↔ s.tflag t = true ∧ s.cpuIpl.toNat < t.level.toNat := by
  simp [State.trapEligible, BitVec.ult]

/-- A source without a noted old priority is ranked by its IPC field (70_reset_and_hazards.md R340). -/
theorem arbPrio_of_no_note {s : State} {i : Irq} (h : ∀ p ∈ s.stalePrio, p.1 ≠ i) : s.arbPrio i = s.prio i := by
  have hlookup : s.stalePrio.lookup i = none :=
    List.lookup_eq_none_iff.mpr fun p hp => bne_iff_ne.mpr (h p hp).symm
  rw [State.arbPrio, hlookup]

/-! ### The winning trap -/

theorem mem_allTraps (t : Trap) : t ∈ allTraps := by cases t <;> decide

/-- In a list of strictly falling levels the first trap that qualifies is the one of the greatest level. -/
theorem find?_eq_some_iff_of_falling (p : Trap → Bool) {l : List Trap}
    (hfalling : l.Pairwise fun a b => b.level.toNat < a.level.toNat) (t : Trap) :
    l.find? p = some t
      ↔ t ∈ l ∧ p t = true ∧ ∀ u ∈ l, p u = true → u.level.toNat ≤ t.level.toNat := by
  induction l with
  | nil => simp
  | cons a l ih =>
    obtain ⟨hbelow, hfalling⟩ := List.pairwise_cons.mp hfalling
    by_cases ha : p a = true
    · rw [List.find?_cons_of_pos ha, Option.some_inj]
      constructor
      · rintro rfl
        refine ⟨List.mem_cons_self, ha, fun u hu _ => ?_⟩
        rcases List.mem_cons.mp hu with rfl | hu
        · exact le_rfl
        · exact (hbelow u hu).le
      · rintro ⟨ht, -, hgreatest⟩
        rcases List.mem_cons.mp ht with rfl | ht
        · rfl
        · exact absurd (hgreatest a List.mem_cons_self ha) (Nat.not_le.mpr (hbelow t ht))
    · rw [List.find?_cons_of_neg ha, ih hfalling]
      have hne : ∀ u, p u = true → (u ∈ a :: l ↔ u ∈ l) := fun u hu =>
        ⟨fun h => (List.mem_cons.mp h).resolve_left fun e => ha (e ▸ hu), List.mem_cons_of_mem a⟩
      constructor
      · rintro ⟨ht, hpt, hgreatest⟩
        exact ⟨List.mem_cons_of_mem a ht, hpt, fun u hu hpu => hgreatest u ((hne u hpu).mp hu) hpu⟩
      · rintro ⟨ht, hpt, hgreatest⟩
        exact ⟨(hne t hpt).mp ht, hpt, fun u hu hpu => hgreatest u (List.mem_cons_of_mem a hu) hpu⟩

theorem trapWinner_eq_some_iff (s : State) (t : Trap) : s.trapWinner = some t ↔
    s.trapEligible t = true ∧ ∀ u, s.trapEligible u = true → u.level.toNat ≤ t.level.toNat := by
  rw [State.trapWinner, find?_eq_some_iff_of_falling _ (by decide)]
  simp [mem_allTraps]

theorem trapWinner_eq_none_iff (s : State) : s.trapWinner = none ↔ ∀ t, s.trapEligible t = false := by
  simp [State.trapWinner, mem_allTraps]

/-! ### The winning source -/

/-- Source `i`, ranked by `p`, has a greater priority than `j`, or the same and no greater number (R213). -/
def State.Outranks (s : State) (i : Irq) (p : BitVec 3) (j : Irq) : Prop :=
  (s.arbPrio j).toNat < p.toNat ∨ ((s.arbPrio j).toNat = p.toNat ∧ i.val ≤ j.val)

/-- `i` is eligible and outranks every eligible source of the list. -/
def State.Beats (s : State) (l : List Irq) (i : Irq) (p : BitVec 3) : Prop :=
  s.eligible i = true ∧ p = s.arbPrio i ∧ ∀ j ∈ l, s.eligible j = true → s.Outranks i p j

/-- The best source of a list: none if none is eligible. -/
def State.IsBest (s : State) (l : List Irq) (best : Option (Irq × BitVec 3)) : Prop :=
  match best with
  | none => ∀ j ∈ l, s.eligible j = false
  | some b => b.1 ∈ l ∧ s.Beats l b.1 b.2

theorem beats_concat {s : State} {l : List Irq} {b i : Irq} {p : BitVec 3} :
    s.Beats (l ++ [i]) b p ↔ s.Beats l b p ∧ (s.eligible i = true → s.Outranks b p i) := by
  simp only [State.Beats, List.forall_mem_append, List.forall_mem_singleton, and_assoc]

theorem better_of_not_eligible {s : State} {i : Irq} (hi : s.eligible i = false) (best : Option (Irq × BitVec 3)) :
    s.better best i = best := by
  simp [State.better, hi]

theorem better_none {s : State} {i : Irq} (hi : s.eligible i = true) : s.better none i = some (i, s.arbPrio i) := by
  simp [State.better, hi]

theorem better_some {s : State} {i : Irq} (hi : s.eligible i = true) (b : Irq × BitVec 3) :
    s.better (some b) i = if b.2.toNat < (s.arbPrio i).toNat then some (i, s.arbPrio i) else some b := by
  simp [State.better, hi, BitVec.ult]

/-- The next source in natural order takes the place of the best so far exactly if it is eligible and of a strictly
greater priority. -/
theorem isBest_better {s : State} {l : List Irq} {i : Irq} (hlast : ∀ j ∈ l, j < i)
    {best : Option (Irq × BitVec 3)} (hbest : s.IsBest l best) : s.IsBest (l ++ [i]) (s.better best i) := by
  have hself : s.Outranks i (s.arbPrio i) i := .inr ⟨rfl, le_rfl⟩
  cases hi : s.eligible i with
  | false =>
    rw [better_of_not_eligible hi]
    cases best with
    | none => exact List.forall_mem_append.mpr ⟨hbest, List.forall_mem_singleton.mpr hi⟩
    | some b => exact ⟨List.mem_append_left _ hbest.1, beats_concat.mpr ⟨hbest.2, fun h => absurd h (by simp [hi])⟩⟩
  | true =>
    cases best with
    | none =>
      rw [better_none hi]
      have hnone : ∀ j ∈ l, s.eligible j = false := hbest
      have hbeats : s.Beats l i (s.arbPrio i) := ⟨hi, rfl, fun j hj hej => absurd hej (by simp [hnone j hj])⟩
      exact ⟨List.mem_append_right l List.mem_cons_self, beats_concat.mpr ⟨hbeats, fun _ => hself⟩⟩
    | some b =>
      obtain ⟨hb, heb, hp, hbeats⟩ := hbest
      rw [better_some hi]
      split
      · next hlt =>
        have hbeats : s.Beats l i (s.arbPrio i) :=
          ⟨hi, rfl, fun j hj hej => .inl ((hbeats j hj hej).elim hlt.trans' fun ⟨he, _⟩ => he ▸ hlt)⟩
        exact ⟨List.mem_append_right l List.mem_cons_self, beats_concat.mpr ⟨hbeats, fun _ => hself⟩⟩
      · next hle =>
        have hbefore : b.1.val < i.val := hlast b.1 hb
        have houtranks : s.Outranks b.1 b.2 i := by unfold State.Outranks; omega
        exact ⟨List.mem_append_left _ hb, beats_concat.mpr ⟨⟨heb, hp, hbeats⟩, fun _ => houtranks⟩⟩

/-- Taken in natural order, the sources leave the best of them. -/
theorem isBest_foldl (s : State) {l : List Irq} (hrising : l.Pairwise (· < ·)) :
    s.IsBest l (l.foldl s.better none) := by
  induction l using List.reverseRecOn with
  | nil => exact fun _ hj => absurd hj List.not_mem_nil
  | append_singleton l i ih =>
    obtain ⟨hrising, -, hlast⟩ := List.pairwise_append.mp hrising
    rw [List.foldl_concat]
    exact isBest_better (fun j hj => hlast j hj i (List.mem_singleton_self i)) (ih hrising)

theorem isBest_irqWinner (s : State) : s.IsBest (List.finRange 72) s.irqWinner :=
  isBest_foldl s (List.pairwise_lt_finRange 72)

theorem irqWinner_eq_none_iff (s : State) : s.irqWinner = none ↔ ∀ j, s.eligible j = false := by
  have hbest := isBest_irqWinner s
  constructor
  · intro hnone j
    rw [hnone] at hbest
    exact hbest j (List.mem_finRange j)
  · intro hnone
    match hw : s.irqWinner with
    | none => rfl
    | some (i, p) =>
      rw [hw] at hbest
      obtain ⟨-, hi, -⟩ := hbest
      exact absurd hi (by simp [hnone i])

/-- The best source is unique: of two that beat each other neither has the lesser number. -/
theorem irqWinner_eq_some_iff (s : State) (i : Irq) (p : BitVec 3) :
    s.irqWinner = some (i, p) ↔ s.Beats (List.finRange 72) i p := by
  have hbest := isBest_irqWinner s
  constructor
  · intro hw
    rw [hw] at hbest
    exact hbest.2
  · rintro ⟨hi, rfl, hbeats⟩
    match hw : s.irqWinner with
    | none => exact absurd hi (by simp [(irqWinner_eq_none_iff s).mp hw i])
    | some (b, p) =>
      rw [hw] at hbest
      obtain ⟨-, hb, hp, hbestBeats⟩ := hbest
      obtain rfl : p = s.arbPrio b := hp
      have hib : s.Outranks i (s.arbPrio i) b := hbeats b (List.mem_finRange b) hb
      have hbi : s.Outranks b (s.arbPrio b) i := hbestBeats i (List.mem_finRange i) hi
      unfold State.Outranks at hib hbi
      obtain rfl : b = i := Fin.ext (by omega)
      rfl

/-! ### The winner -/

theorem winner_eq_trap_iff (s : State) (t : Trap) : s.winner = some (.trap t) ↔ s.trapWinner = some t := by
  unfold State.winner
  split
  · next u hu => simp [hu]
  · next hu => split <;> simp [hu]

theorem winner_eq_irq_iff (s : State) (i : Irq) (p : BitVec 3) :
    s.winner = some (.irq i p) ↔ s.trapWinner = none ∧ s.irqWinner = some (i, p) := by
  unfold State.winner
  split
  · next u hu => simp [hu]
  · next hu =>
    split
    · next b hb => simp [hu, hb, Prod.ext_iff]
    · next hb => simp [hb]

theorem winner_eq_none_iff (s : State) : s.winner = none ↔ s.trapWinner = none ∧ s.irqWinner = none := by
  unfold State.winner
  split
  · next u hu => simp [hu]
  · next hu =>
    split
    · next b hb => simp [hb]
    · next hb => simp [hu, hb]

end Sys2Proof.Machine

namespace Sys2Proof.Claims

open Sys2Proof Sys2Proof.Machine

/-- Settles O32: the four conditions on a source, of which only a noted old priority changes the rank, and the two on a
trap. -/
theorem eligibility : Obligations.Eligibility := fun s i t =>
  ⟨eligible_iff s i, arbPrio_of_no_note, trapEligible_iff s t⟩

/-- Settles O34: the traps stand in the order of their levels, and the sources are compared in natural order. -/
theorem winnerOfArbitration : Obligations.WinnerOfArbitration := by
  intro s
  refine ⟨fun t => ?trap, fun i p => ?irq, ?none⟩
  case trap => rw [winner_eq_trap_iff, trapWinner_eq_some_iff]
  case irq =>
    rw [winner_eq_irq_iff, trapWinner_eq_none_iff, irqWinner_eq_some_iff]
    simp only [State.Beats, State.Outranks, List.mem_finRange, forall_const]
  case none => rw [winner_eq_none_iff, trapWinner_eq_none_iff, irqWinner_eq_none_iff]

end Sys2Proof.Claims
end

section
/-! SUPPORT. What the step does after the events of its slot: the instruction at the pc, the entry of the winner, or the
power step (60_exceptions.md R215 to R217, R241), and the settlements of StepRunsDecodedInstruction, AcknowledgeDelay
and PowerStep. -/

namespace Sys2Proof.Claims

open Sys2Proof Sys2Proof.Machine

/-! ### The instruction at the pc -/

theorem withCollision_false (o : Outcome) : withCollision false o = o := rfl

theorem secondWordAddr_eq_nextPc (s : State) : s.secondWordAddr = nextPc s :=
  congrArg State.pc (advance_eq_nextPc s)

/-- The instruction that the words at the pc decode to is executed, with the collision of the slot (61_traps.md R294). -/
theorem executeInstruction_of_decode {collision : Bool} {s : State} {i : Instr} {rest : List PWord}
    (hprog : progImplemented s.device s.pc = true) (hdecode : decode s.fetchWords = .ok i rest) :
    executeInstruction collision s = withCollision (collision && writesRam i s) (exec i s) := by
  simp only [executeInstruction, hprog, hdecode, Bool.not_true, Bool.false_eq_true, if_false]

theorem step_of_decode {s u : State} {i : Instr} {rest : List PWord} (harb : Arbitrates s u)
    (hwinner : u.winner = none) (hprog : progImplemented u.device u.pc = true)
    (hdecode : decode u.fetchWords = .ok i rest) :
    step s = withCollision (s.slot.dmaCollision && writesRam i { u with stalePrio := [], skid := 0 })
      (exec i { u with stalePrio := [], skid := 0 }) := by
  rw [step_of_no_winner harb hwinner]
  exact executeInstruction_of_decode (s := { u with stalePrio := [], skid := 0 }) hprog hdecode

/-- With an empty schedule the environment does nothing before the step. -/
theorem arbitrates_tickOver {s : State} (henv : s.env = []) (hmode : s.tickOver.mode = .run) :
    Arbitrates s s.tickOver ∧ s.slot.dmaCollision = false := by
  have hslot : s.slot = ⟨[], false⟩ := by rw [State.slot, henv]; rfl
  exact ⟨⟨by rw [hslot]; rfl, hmode⟩, by rw [hslot]⟩

/-- Settles O5: without a winner the step executes what the fetched words decode to; a run that has ended has no
collision either. -/
theorem stepRunsDecodedInstruction : Obligations.StepRunsDecodedInstruction := by
  refine ⟨fun s u i rest harb hwinner hprog hdecode => ?decoded, fun s a hended => ?ended⟩
  case decoded =>
    rw [← secondWordAddr_eq_nextPc] at hdecode
    exact step_of_decode harb hwinner hprog hdecode
  case ended =>
    obtain ⟨henv, hmode, hwinner, rfl, hprog, hdecode⟩ := hended
    obtain ⟨harb, hquiet⟩ := arbitrates_tickOver henv hmode
    refine ⟨rfl, ?_⟩
    rw [step_of_decode harb hwinner hprog hdecode, hquiet, Bool.false_and, withCollision_false]

/-! ### The entry of the winner -/

/-- A step in which a request has won lets one more instruction through or enters the exception. -/
theorem step_of_winner {s u : State} {r : Request} (harb : Arbitrates s u) (hwinner : u.winner = some r) :
    step s = if u.letsThrough r then
        executeInstruction s.slot.dmaCollision { u with stalePrio := [], skid := u.skid + 1 }
      else enterException s.slot.dmaCollision r { u with stalePrio := [] } := by
  obtain ⟨hevents, hmode⟩ := harb
  simp only [step, fullStep, hevents, cpuStep, hmode, runStep, hwinner]

theorem letsThrough_imp {s : State} {r : Request} (h : s.letsThrough r = true) :
    r.isHard = false ∧ s.skid < s.device.skidMax := by
  simp only [State.letsThrough, Bool.and_eq_true, Bool.not_eq_true', decide_eq_true_eq] at h
  obtain ⟨⟨hsoft, hskid⟩, -⟩ := h
  exact ⟨hsoft, hskid⟩

/-- The hard traps are those of level 13 and 14 (61_traps.md R270, R310). -/
theorem isHard_of_level {r : Request} (h : r.level.toNat = 13 ∨ r.level.toNat = 14) : r.isHard = true := by
  cases r with
  | trap t =>
    cases t with
    | oscFail | addressError => rfl
    | stackError | mathError | dmacError => exact absurd h (by decide)
  | irq i p =>
    have hlevel : (Request.irq i p).level.toNat = p.toNat := zeroExtend_prio_toNat p
    have := p.isLt
    omega

/-- Settles O35: the step lets an instruction through only before an interrupt or a soft trap, and below SKID_MAX. -/
theorem acknowledgeDelay : Obligations.AcknowledgeDelay := by
  intro s u r harb hwinner v entry
  have hstep := step_of_winner harb hwinner
  cases hthrough : u.letsThrough r with
  | false =>
    have hentry : step s = entry := hstep.trans (if_neg (by simp [hthrough]))
    exact ⟨fun _ => hentry, .inl hentry⟩
  | true =>
    obtain ⟨hsoft, hskid⟩ := letsThrough_imp hthrough
    refine ⟨fun h => ?_, .inr ⟨hskid, hsoft, hstep.trans (if_pos hthrough)⟩⟩
    rcases h with h | h | h
    · exact absurd (isHard_of_level (.inl h)) (by simp [hsoft])
    · exact absurd (isHard_of_level (.inr h)) (by simp [hsoft])
    · omega

/-! ### Sleep and Idle -/

theorem step_asleep {s u : State} (hevents : applyEvents s.slot.events s.tickOver = .next u) (hmode : u.mode ≠ .run) :
    step s = powerStep u := by
  have hcpu : cpuStep s.slot.dmaCollision u = powerStep u := by
    unfold cpuStep
    split
    · next hrun => exact absurd hrun hmode
    · rfl
    · rfl
  simp only [step, fullStep, hevents, hcpu]

theorem wake_iff (s : State) :
    s.wake = true ↔ ∃ i, s.flag i = true ∧ s.en i = true ∧ 1 ≤ (s.prio i).toNat := by
  have hpositive : ∀ p : BitVec 3, p ≠ 0#3 ↔ 1 ≤ p.toNat := by decide
  simp [State.wake, State.wakes, ← hpositive, and_assoc]

theorem anyTrapEligible_iff (s : State) :
    allTraps.any s.trapEligible = true ↔ ∃ t, s.trapEligible t = true := by
  simp [mem_allTraps]

/-- Settles O40: a waking source comes before an eligible trap, and a trap before nothing. -/
theorem powerStep : Obligations.PowerStep := by
  intro s u hevents hmode
  rw [step_asleep hevents hmode]
  refine ⟨fun hwake => ?wakes, fun hnone => ?sleeps⟩
  case wakes => exact if_pos ((wake_iff u).mpr hwake)
  case sleeps =>
    have hasleep : ¬ u.wake = true := fun h => (wake_iff u).mp h |>.elim hnone
    refine ⟨fun htrap => ?_, fun htrap => ?_⟩
    · exact (if_neg hasleep).trans (if_pos ((anyTrapEligible_iff u).mpr htrap))
    · refine (if_neg hasleep).trans (if_neg fun h => ?_)
      obtain ⟨t, ht⟩ := (anyTrapEligible_iff u).mp h
      exact absurd ht (by simp [htrap t])

end Sys2Proof.Claims
end

section
/-! SUPPORT. An exception entry in the words of the statements: the two pushes of its frame, where they are good and
where they are inhibited, and what follows them (60_exceptions.md R222 to R228), and the settlements of
ExceptionEntryResult and EntryOnBadStack. -/

namespace Sys2Proof.Machine

/-! ### Even words -/

/-- Dropping bit 0 rounds down to an even number. -/
theorem toNat_and_even (a : Word) : (a &&& 0xFFFE#16).toNat = a.toNat / 2 * 2 := by
  have hshift : a &&& 0xFFFE#16 = (a >>> 1) <<< 1 := by
    apply word_ext
    intro i hi
    rw [getLsbD_and_word, (by decide : ∀ i < 16, (0xFFFE#16).getLsbD i = decide (i ≠ 0)) i hi, BitVec.getLsbD_shiftLeft,
      BitVec.getLsbD_ushiftRight]
    by_cases h0 : i = 0
    · simp [h0]
    · simp [h0, hi, show ¬ i < 1 by omega, show 1 + (i - 1) = i by omega]
  have ha := a.isLt
  rw [hshift, BitVec.toNat_shiftLeft, BitVec.toNat_ushiftRight, Nat.shiftLeft_eq, Nat.shiftRight_eq_div_pow]
  omega

/-- W15 after two moves up by 2, bit 0 dropped at each. -/
theorem twoPushes_sp (a : Word) :
    (((a + 2#16) &&& 0xFFFE#16) + 2#16) &&& 0xFFFE#16 = (a + 4#16) &&& 0xFFFE#16 := by
  apply BitVec.eq_of_toNat_eq
  simp only [toNat_and_even, BitVec.toNat_add, BitVec.toNat_ofNat]
  omega

/-- One of two pushes wraps exactly if the first starts at 0xFFFC or above (61_traps.md R283). -/
theorem twoPushes_wrap (a : Word) :
    (0xFFFE ≤ a.toNat ∨ 0xFFFE ≤ ((a + 2#16) &&& 0xFFFE#16).toNat) ↔ 0xFFFC ≤ a.toNat := by
  have ha := a.isLt
  simp only [toNat_and_even, BitVec.toNat_add, BitVec.toNat_ofNat]
  omega

/-! ### The end of an entry -/

/-- A write of IPL<2:0> stands in bits 7:5 of SR. -/
theorem replaceBits_ipl (old : Word) (v : BitVec 3) : replaceBits old (v.zeroExtend 16 <<< 5) 0x00E0#16
    = old.extractLsb' 8 8 ++ v ++ old.extractLsb' 0 5 := by
  have hmask : ∀ n < 16, (0x00E0#16).getLsbD n = decide (5 ≤ n ∧ n < 8) := by decide
  refine (eq_append₃_iff (m := 8) (n := 3) (p := 5)).mpr ⟨?high, ?field, ?low⟩
  all_goals
    apply BitVec.eq_of_getLsbD_eq
    intro n hn
    rw [BitVec.getLsbD_extractLsb', getLsbD_replaceBits, hmask _ (by omega)]
  case high => simp [hn, show ¬ 5 + 3 + n < 8 by omega]
  case field => simp [hn, show 5 + n < 8 by omega, show 5 + n < 16 by omega]
  case low => simp [hn, show ¬ 5 ≤ n by omega]

end Sys2Proof.Machine

namespace Sys2Proof.Claims

open Sys2Proof Sys2Proof.Machine

/-- The new priority is written into SR and CORCON and nowhere else (R223). -/
theorem enterPriority_eq (r : Request) (p : State) : p.enterPriority r = { p with
    sr := p.sr.extractLsb' 8 8 ++ newIpl p r ++ p.sr.extractLsb' 0 5
    corcon := setBit p.corcon 3 (newIpl3 p r) } := by
  have hipl : ∀ (q : State) (v : BitVec 3),
      q.setIpl v = { q with sr := q.sr.extractLsb' 8 8 ++ v ++ q.sr.extractLsb' 0 5 } := fun q v => by
    rw [← replaceBits_ipl]; rfl
  cases r with
  | irq i prio =>
    have hcorcon : setBit p.corcon 3 (newIpl3 p (.irq i prio)) = p.corcon := setBit_self _ _ (by decide)
    rw [hcorcon]
    exact hipl p _
  | trap t =>
    have hlevel : t.level.extractLsb' 0 3 = BitVec.ofNat 3 (t.level.toNat - 8) := by cases t <;> rfl
    show (p.setIpl3 true).setIpl (t.level.extractLsb' 0 3) = _
    rw [hlevel, hipl]
    rfl

/-- The state after an entry is that of the statements, from the state after its pushes. -/
theorem afterEntry_eq_entered (r : Request) (s : State) :
    s.afterEntry r = (entered r (r.vecnum s.tick) s.pushFrame).finish .entry false := by
  have hpc : ∀ u : State, wrapPc u.device (vectorTarget (u.progWord (u.vectorAddr r.vec))) = vectorPc r u :=
    fun u => wrapPc_eq_pcValue u _
  have hend : s.afterEntry r = State.finish .entry false { s.pushFrame.enterPriority r with
      inttreg := inttregWord r.level (r.vecnum s.tick)
      pc := vectorPc r { s.pushFrame.enterPriority r with inttreg := inttregWord r.level (r.vecnum s.tick) }
      mode := .run
      skid := 0 } := by
    rw [← hpc]
    rfl
  rw [hend, enterPriority_eq]
  rfl

/-- An entry ends as the statements say, from the state after its pushes (R223 to R227). -/
theorem entryEnds_afterEntry (r : Request) (s : State) : EntryEnds r s.pushFrame (s.afterEntry r) := by
  obtain ⟨c, hcount, hend⟩ := countedDown_finish .entry (entered r (r.vecnum s.tick) s.pushFrame)
  refine ⟨r.vecnum s.tick, c, hcount, (afterEntry_eq_entered r s).trans hend, ?_⟩
  rintro i prio rfl
  rfl

/-! ### Good pushes -/

theorem wordBad_eq_false_iff {s : State} {a : DAddr} : s.wordBad a = false ↔ WordOk s a := by
  simp [State.wordBad, WordOk]

/-- The state after the first push of the frame to a good address. -/
def firstPushed (s : State) : State := pushed (latched s) ((latched s).putWord s.sp (frameWord1 s))

/-- The state after the second one. -/
def secondPushed (s : State) : State :=
  pushed (firstPushed s) ((firstPushed s).putWord (frameSecond s) (frameWord2 s))

theorem firstPushed_frame (s : State) : DataFrame (latched s) (firstPushed s) :=
  (putWord_frame _ _ _).trans (pushed_frame _ _)

theorem sp_pushed (s q : State) : (pushed s q).sp = q.sp + 2#16 := vget_set_same q.w 15 _ (by decide) 15 rfl

/-- After the first push W15 is 2 above it, or 2 above what it wrote into W15 (log 36). -/
theorem sp_firstPushed (s : State) : (firstPushed s).sp = frameSecond s := by
  have hsp : (firstPushed s).sp = ((latched s).putWord s.sp (frameWord1 s)).sp + 2#16 := sp_pushed _ _
  rw [hsp]
  unfold frameSecond
  rcases putWord_eq s.sp (frameWord1 s) (latched s) with ⟨r, hr, e⟩ | ⟨hr, e⟩
  · have hr : sfrAt s.device s.sp = some r := hr
    rw [e, hr]
    cases r with
    | w15 =>
      have hload : ((latched s).writeSfr .w15 (frameWord1 s) 0xFFFF#16).sp
          = replaceBits s.sp (frameWord1 s) 0xFFFF#16 &&& 0xFFFE#16 := sp_setSp _ _
      rw [hload, replaceBits_allOnes]
      rfl
    | splim | sr | corcon | disicnt | intcon1 | intcon2 | inttreg | rcon | osccon | ifs | iec | ipc => rfl
  · have hr : sfrAt s.device s.sp = none := hr
    rw [e, hr]
    rfl

theorem firstPush_of_ok {s : State} (h : WordOk s s.sp) :
    s.latchTemp.pushWord false s.frameLow = firstPushed s :=
  pushWord_of_ok (s := latched s) h _

/-- The second push of a good frame goes where the statements say. -/
theorem secondPushAddr_of_ok {s : State} (h : WordOk s s.sp) : s.secondPushAddr = frameSecond s := by
  rw [State.secondPushAddr, State.afterFirstPush, wordBad_of_ok h, firstPush_of_ok h, sp_firstPushed]

/-- The entries that raise no address error (R228). -/
theorem entryBad_eq_false_iff (s : State) :
    s.entryBad = false ↔ WordOk s s.sp ∧ WordOk s (frameSecond s) := by
  rw [State.entryBad, Bool.or_eq_false_iff, wordBad_eq_false_iff, wordBad_eq_false_iff]
  exact and_congr_right fun h => by rw [secondPushAddr_of_ok h]

theorem pushFrame_of_ok {s : State} (hfirst : WordOk s s.sp) (hsecond : WordOk s (frameSecond s)) :
    s.pushFrame = secondPushed s := by
  have hgood : s.entryBad = false := (entryBad_eq_false_iff s).mpr ⟨hfirst, hsecond⟩
  have hnext : WordOk (firstPushed s) (firstPushed s).sp := by
    rw [sp_firstPushed, WordOk, (firstPushed_frame s).device]
    exact hsecond
  calc s.pushFrame
      = ((s.latchTemp.pushWord s.entryBad s.frameLow).pushWord s.entryBad s.frameHigh).setTflagIf s.entryBad
          .addressError := rfl
    _ = secondPushed s := by
        rw [hgood, setTflagIf_false, firstPush_of_ok hfirst, pushWord_of_ok hnext, sp_firstPushed]
        rfl

theorem exceptionEntry_of_ok {r : Request} {s : State} (hfirst : WordOk s s.sp) (hsecond : WordOk s (frameSecond s)) :
    exceptionEntry r s = .next (s.afterEntry r) := by
  rw [exceptionEntry, (entryBad_eq_false_iff s).mpr ⟨hfirst, hsecond⟩, settle_false]

/-! ### A frame in memory -/

theorem frameSecond_of_ram {s : State} (h : RamFrame s s.sp) : frameSecond s = s.sp + 2#16 := by
  obtain ⟨-, -, hfirst, -⟩ := h
  rw [frameSecond, hfirst]
  rfl

theorem exceptionEntry_of_ram {r : Request} {s : State} (h : RamFrame s s.sp) :
    exceptionEntry r s = .next (s.afterEntry r) := by
  have hsecond := frameSecond_of_ram h
  obtain ⟨hfirst, hnext, -⟩ := h
  exact exceptionEntry_of_ok hfirst (hsecond ▸ hnext)

/-- The two words of a frame in memory, and nothing else. -/
def frameStored (s : State) : State :=
  (s.setRamWord s.sp (frameWord1 s)).setRamWord (s.sp + 2#16) (frameWord2 s)

/-- Above a frame in memory W15 is even as well. -/
theorem even_sp_of_ram {s : State} (h : RamFrame s s.sp) :
    (s.sp + 2#16) &&& 0xFFFE#16 = s.sp + 2#16 ∧ (s.sp + 4#16) &&& 0xFFFE#16 = s.sp + 4#16 := by
  obtain ⟨-, ⟨hsecond, -⟩, -⟩ := h
  have heven : (s.sp + 2#16).getLsbD 0 = false := hsecond
  have hfour : s.sp + 4#16 = s.sp + 2#16 + 2#16 := (BitVec.add_assoc s.sp 2#16 2#16).symm
  rw [hfour]
  exact ⟨and_mask_of_even heven, and_mask_of_even (even_word_add_two heven)⟩

theorem stackErrorIf_stackErrorIf (a b : Bool) (s : State) :
    stackErrorIf b (stackErrorIf a s) = stackErrorIf (a || b) s := by
  cases a <;> cases b <;> simp [stackErrorIf]

/-- The checks of two pushes of which neither writes W15 (61_traps.md R281 to R283). -/
theorem twoPushes_checks (s : State) :
    ((badStack s s.sp || decide (0xFFFE ≤ s.sp.toNat))
        || (badStack s ((s.sp + 2#16) &&& 0xFFFE#16) || decide (0xFFFE ≤ ((s.sp + 2#16) &&& 0xFFFE#16).toNat)))
      = (badStack s s.sp || badStack s ((s.sp + 2#16) &&& 0xFFFE#16) || decide (0xFFFC ≤ s.sp.toNat)) := by
  rw [← decide_eq_decide.mpr (twoPushes_wrap s.sp), Bool.decide_or]
  ac_rfl

/-- A push to memory writes it, moves W15 and makes its checks. -/
theorem pushed_setRamWord (s : State) (a : DAddr) (v : Word) : pushed s (s.setRamWord a v) =
    { stackErrorIf (badStack s s.sp || decide (0xFFFE ≤ s.sp.toNat)) s with
      mem := (s.setRamWord a v).mem, w := s.w.set 15 (s.sp + 2#16) } := rfl

theorem putWord_of_ram {s : State} {a : DAddr} (h : sfrAt s.device a = none) (v : Word) :
    s.putWord a v = s.setRamWord a v := by
  rw [State.putWord, h]

theorem firstPushed_of_ram {s : State} (h : sfrAt s.device s.sp = none) : firstPushed s =
    { stackErrorIf (badStack s s.sp || decide (0xFFFE ≤ s.sp.toNat)) (latched s) with
      mem := (s.setRamWord s.sp (frameWord1 s)).mem, w := s.w.set 15 (s.sp + 2#16) } := by
  rw [firstPushed, putWord_of_ram (s := latched s) h]
  exact pushed_setRamWord (latched s) _ _

/-- Both words of a frame in memory are pushed there. -/
theorem secondPushed_of_ram {s : State} (h : RamFrame s s.sp) :
    secondPushed s = framePushed (frameStored s).mem s := by
  have hsecond := frameSecond_of_ram h
  obtain ⟨hsp2, hsp4⟩ := even_sp_of_ram h
  obtain ⟨-, -, hfirst, hnext⟩ := h
  have hnextRam : sfrAt (firstPushed s).device (s.sp + 2#16) = none := by
    rw [(firstPushed_frame s).device]
    exact hnext
  have hfour : s.sp + 2#16 + 2#16 = s.sp + 4#16 := BitVec.add_assoc s.sp 2#16 2#16
  have hchecks := twoPushes_checks s
  rw [hsp2] at hchecks
  calc secondPushed s
      = { stackErrorIf (badStack s (s.sp + 2#16) || decide (0xFFFE ≤ (s.sp + 2#16).toNat)) (firstPushed s) with
          mem := (frameStored s).mem, w := (firstPushed s).w.set 15 (s.sp + 2#16 + 2#16) } := by
        rw [secondPushed, hsecond, putWord_of_ram hnextRam, pushed_setRamWord, sp_firstPushed, hsecond,
          firstPushed_of_ram hfirst]
        rfl
    _ = { stackErrorIf (badStack s (s.sp + 2#16) || decide (0xFFFE ≤ (s.sp + 2#16).toNat))
            (stackErrorIf (badStack s s.sp || decide (0xFFFE ≤ s.sp.toNat)) (latched s)) with
          mem := (frameStored s).mem, w := s.w.set 15 (s.sp + 2#16 + 2#16) } := by
        rw [firstPushed_of_ram hfirst, Vector.set_set]
        rfl
    _ = framePushed (frameStored s).mem s := by
        rw [stackErrorIf_stackErrorIf, hchecks, hfour, framePushed, hsp2, hsp4]

theorem pushFrame_of_ram {s : State} (h : RamFrame s s.sp) : s.pushFrame = framePushed (frameStored s).mem s := by
  have hsecond := frameSecond_of_ram h
  rw [← secondPushed_of_ram h]
  obtain ⟨hfirst, hnext, -⟩ := h
  exact pushFrame_of_ok hfirst (hsecond ▸ hnext)

/-- The two words of a frame in memory stand apart. -/
theorem frame_addrs_ne (a : DAddr) : a ≠ a + 2#16 ∧ a ≠ a + 2#16 + 1 ∧ a + 1 ≠ a + 2#16 ∧ a + 1 ≠ a + 2#16 + 1 := by
  refine ⟨?_, ?_, ?_, ?_⟩ <;> bv_omega

theorem frameAt_stored (s : State) : FrameAt s (frameStored s) s.sp := by
  obtain ⟨hne, hne', hne1, hne1'⟩ := frame_addrs_ne s.sp
  refine ⟨?first, ramWord_setRamWord_same _ _ _, fun b h0 h1 h2 h3 => ?others⟩
  case first =>
    rw [frameStored, State.ramWord, ramByte_setRamWord_other _ _ _ _ hne1 hne1',
      ramByte_setRamWord_other _ _ _ _ hne hne', ← State.ramWord, ramWord_setRamWord_same]
  case others =>
    have hlow : b ≠ s.sp + 2#16 := h2
    have hhigh : b ≠ s.sp + 2#16 + 1 := by
      rw [BitVec.add_assoc]
      exact h3
    rw [frameStored, ramByte_setRamWord_other _ _ _ _ hlow hhigh, ramByte_setRamWord_other _ _ _ _ h0 h1]

theorem mem_afterEntry_of_ram {r : Request} {s : State} (h : RamFrame s s.sp) :
    (s.afterEntry r).mem = (frameStored s).mem := by
  rw [afterEntry_eq_entered, pushFrame_of_ram h]
  rfl

theorem frameAt_afterEntry {r : Request} {s : State} (h : RamFrame s s.sp) : FrameAt s (s.afterEntry r) s.sp := by
  obtain ⟨hfirst, hsecond, hothers⟩ := frameAt_stored s
  have hepoch : (s.afterEntry r).epoch = (frameStored s).epoch := by
    rw [afterEntry_eq_entered, pushFrame_of_ram h]
    rfl
  have hbyte : MemoryKept (frameStored s) (s.afterEntry r) := memoryKept_of_mem (mem_afterEntry_of_ram h) hepoch
  have hword : ∀ a, (s.afterEntry r).ramWord a = (frameStored s).ramWord a := fun a => by
    rw [State.ramWord, hbyte, hbyte]
    rfl
  exact ⟨(hword _).trans hfirst, (hword _).trans hsecond, fun b h0 h1 h2 h3 => (hbyte b).trans (hothers b h0 h1 h2 h3)⟩

/-- Settles O36: two pushes to good addresses, in memory those of `framePushed`, and then the end of the entry. -/
theorem exceptionEntryResult : Obligations.ExceptionEntryResult := by
  intro r s
  refine ⟨fun hram => ⟨s.afterEntry r, exceptionEntry_of_ram hram, ?ends, frameAt_afterEntry hram⟩,
    fun hfirst hsecond => ⟨(latched s).putWord s.sp (frameWord1 s),
      (firstPushed s).putWord (frameSecond s) (frameWord2 s), s.afterEntry r, wrote_putWord (latched s) _ _,
      sp_firstPushed s, wrote_putWord (firstPushed s) _ _, exceptionEntry_of_ok hfirst hsecond, ?endsOk⟩⟩
  case ends =>
    rw [mem_afterEntry_of_ram hram, ← pushFrame_of_ram hram]
    exact entryEnds_afterEntry r s
  case endsOk =>
    have hends := entryEnds_afterEntry r s
    rw [pushFrame_of_ok hfirst hsecond] at hends
    exact hends

/-! ### Inhibited pushes -/

/-- A push that an address error inhibits: ADDRERR where its own address is bad, W15 and the checks (61_traps.md R303). -/
theorem pushWord_inhibited (s : State) (v : Word) : s.pushWord true v =
    { stackErrorIf (badStack s s.sp || decide (0xFFFE ≤ s.sp.toNat)) (s.setTflagIf (s.wordBad s.sp) .addressError) with
      w := s.w.set 15 ((s.sp + 2#16) &&& 0xFFFE#16) } := by
  have hwrite : s.writeWord true s.sp v = s.setTflagIf (s.wordBad s.sp) .addressError := by
    rcases writeWord_eq true s.sp v s with ⟨hb, e⟩ | ⟨hb, -, e⟩ | ⟨-, h, -⟩
    · rw [e, hb, setTflagIf_true]
    · rw [e, hb, setTflagIf_false]
    · exact absurd h (by decide)
  show (State.setTflagIf (s.stackBad s.sp || decide (0xFFFE ≤ (s.writeWord true s.sp v).sp.toNat)) .stackError
    (s.writeWord true s.sp v)).setSp ((s.writeWord true s.sp v).sp + 2#16) = _
  rw [hwrite]
  rfl

/-- Status bits are set in any order. -/
theorem setBit_comm (w : Word) {i j : Nat} (hi : i < 16) (hj : j < 16) :
    setBit (setBit w i true) j true = setBit (setBit w j true) i true := by
  apply word_ext
  intro n _
  simp only [getLsbD_setBit _ _ _ _ hi, getLsbD_setBit _ _ _ _ hj]
  split <;> split <;> rfl

theorem setTflag_stackErrorIf (c : Bool) (s : State) :
    (stackErrorIf c s).setTflag .addressError = stackErrorIf c (s.setTflag .addressError) := by
  cases c
  · rfl
  · show { s with intcon1 := setBit (setBit s.intcon1 2 true) 3 true } = _
    rw [setBit_comm _ (by decide) (by decide)]
    rfl

theorem setTflag_setTflagIf (b : Bool) (t : Trap) (s : State) : (s.setTflagIf b t).setTflag t = s.setTflag t := by
  cases b
  · rfl
  · show { s with intcon1 := setBit (setBit s.intcon1 t.bit true) t.bit true } = _
    rw [setBit_setBit _ _ _ _ (trap_bit_implemented t).1]
    rfl

/-- With ADDRERR raised after it, what an inhibited push raised before does not count. -/
theorem setTflag_pushWord_inhibited (s : State) (v : Word) : (s.pushWord true v).setTflag .addressError =
    { stackErrorIf (badStack s s.sp || decide (0xFFFE ≤ s.sp.toNat)) (s.setTflag .addressError) with
      w := s.w.set 15 ((s.sp + 2#16) &&& 0xFFFE#16) } := by
  calc (s.pushWord true v).setTflag .addressError
      = { (stackErrorIf (badStack s s.sp || decide (0xFFFE ≤ s.sp.toNat))
            (s.setTflagIf (s.wordBad s.sp) .addressError)).setTflag .addressError with
          w := s.w.set 15 ((s.sp + 2#16) &&& 0xFFFE#16) } := by
        rw [pushWord_inhibited]
        rfl
    _ = _ := by rw [setTflag_stackErrorIf, setTflag_setTflagIf]

theorem sp_pushWord_inhibited (s : State) (v : Word) : (s.pushWord true v).sp = (s.sp + 2#16) &&& 0xFFFE#16 := by
  rw [pushWord_inhibited]
  exact vget_set_same s.w 15 _ (by decide) 15 rfl

/-- An inhibited push moves no register but W15, and not the stack limit. -/
theorem pushWord_inhibited_kept (s : State) (v : Word) :
    badStack (s.pushWord true v) = badStack s ∧ (s.pushWord true v).w = s.w.set 15 ((s.sp + 2#16) &&& 0xFFFE#16) := by
  rw [pushWord_inhibited]
  exact ⟨rfl, rfl⟩

/-- Two inhibited pushes, with ADDRERR raised after them: W15 moves twice, and the checks of both are made. -/
theorem setTflag_twoPushes_inhibited (s : State) (v v' : Word) :
    ((s.pushWord true v).pushWord true v').setTflag .addressError =
      { (stackErrorIf (badStack s s.sp || badStack s ((s.sp + 2#16) &&& 0xFFFE#16) || decide (0xFFFC ≤ s.sp.toNat))
          s).setTflag .addressError with w := s.w.set 15 ((s.sp + 4#16) &&& 0xFFFE#16) } := by
  obtain ⟨hstack, hw⟩ := pushWord_inhibited_kept s v
  calc ((s.pushWord true v).pushWord true v').setTflag .addressError
      = { stackErrorIf (badStack s ((s.sp + 2#16) &&& 0xFFFE#16)
              || decide (0xFFFE ≤ ((s.sp + 2#16) &&& 0xFFFE#16).toNat)) ((s.pushWord true v).setTflag .addressError) with
          w := s.w.set 15 ((s.sp + 4#16) &&& 0xFFFE#16) } := by
        rw [setTflag_pushWord_inhibited, sp_pushWord_inhibited, hstack, hw, twoPushes_sp, Vector.set_set]
    _ = { stackErrorIf (badStack s ((s.sp + 2#16) &&& 0xFFFE#16)
              || decide (0xFFFE ≤ ((s.sp + 2#16) &&& 0xFFFE#16).toNat))
            (stackErrorIf (badStack s s.sp || decide (0xFFFE ≤ s.sp.toNat)) (s.setTflag .addressError)) with
          w := s.w.set 15 ((s.sp + 4#16) &&& 0xFFFE#16) } := by
        rw [setTflag_pushWord_inhibited]
        rfl
    _ = _ := by rw [stackErrorIf_stackErrorIf, twoPushes_checks, ← setTflag_stackErrorIf]

/-- The frame of an entry with an address error: neither word is written, ADDRERR is set (R228, 61_traps.md R303). -/
theorem pushFrame_of_bad {s : State} (h : s.entryBad = true) : s.pushFrame =
    { framePushed s.mem s with intcon1 := setBit (framePushed s.mem s).intcon1 3 true } := by
  rw [State.pushFrame, h, setTflagIf_true]
  exact setTflag_twoPushes_inhibited (latched s) _ _

/-! ### Raising a hard trap -/

theorem conflict_iff (h : Trap) (s : State) :
    ((allTraps.any fun u => h.level.ult u.level && s.tflag u) || h.level.ult s.cpuIpl) = true ↔ Conflict h s := by
  simp [Conflict, BitVec.ult, mem_allTraps]

/-- Raising a hard trap answers what the statements say, if the state after it has what they ask (61_traps.md R272,
R312, R313). -/
theorem raisesHard_raiseHard {h : Trap} {s after : State} {P : State → Prop} (hP : P after) :
    RaisesHard h s (raiseHard h s after) P := by
  refine ⟨fun hconflict => ?_, fun hclear hlevel => ?_, fun hclear hlevel => ⟨after, ?_, hP⟩⟩
  · rw [raiseHard, hardCheck, if_pos ((conflict_iff h s).mpr hconflict)]
  · rw [raiseHard, hardCheck, if_neg (mt (conflict_iff h s).mp hclear), if_pos hlevel]
  · rw [raiseHard, hardCheck, if_neg (mt (conflict_iff h s).mp hclear), if_neg hlevel]

/-- Settles O37: both pushes are inhibited, and the entry goes on from the state that they leave. -/
theorem entryOnBadStack : Obligations.EntryOnBadStack := by
  intro r s
  refine ⟨fun hbad => ?_, entryBad_eq_false_iff s⟩
  have hpushed := pushFrame_of_bad hbad
  have hends := entryEnds_afterEntry r s
  have hentry : exceptionEntry r s = raiseHard .addressError s (s.afterEntry r) := by
    rw [exceptionEntry, hbad, settle_true]
  have hflag : (s.afterEntry r).tflag .addressError = true := by
    rw [afterEntry_eq_entered, hpushed]
    exact (getLsbD_setBit _ 3 3 true (by decide)).trans (if_pos rfl)
  have hmem : MemoryKept s (s.afterEntry r) := by
    rw [afterEntry_eq_entered, hpushed]
    exact memoryKept_of_mem rfl rfl
  rw [hpushed] at hends
  rw [hentry]
  exact raisesHard_raiseHard ⟨hflag, hmem, hends⟩

end Sys2Proof.Claims
end

section
/-! SUPPORT. RETFIE after an exception entry, and the priority level after an entry (60_exceptions.md R218, R223, R231,
R233), and the settlements of RetfieUndoesEntry and EntryRaisesLevel. -/

namespace Sys2Proof.Claims

open Sys2Proof Sys2Proof.Machine

/-! ### RETFIE after an entry -/

/-- The state before the countdown of an entry whose frame is in memory. -/
def enteredRam (r : Request) (s : State) : State := entered r (r.vecnum s.tick) (framePushed (frameStored s).mem s)

theorem afterEntry_of_ram {r : Request} {s : State} (h : RamFrame s s.sp) :
    s.afterEntry r = (enteredRam r s).finish .entry false := by
  rw [afterEntry_eq_entered, pushFrame_of_ram h, enteredRam]

/-- After an entry W15 is 4 higher. -/
theorem w_afterEntry_of_ram {r : Request} {s : State} (h : RamFrame s s.sp) :
    (s.afterEntry r).w = s.w.set 15 (s.sp + 4#16) := by
  obtain ⟨-, hsp4⟩ := even_sp_of_ram h
  rw [afterEntry_of_ram h, ← hsp4]
  rfl

theorem sp_afterEntry_of_ram {r : Request} {s : State} (h : RamFrame s s.sp) :
    (s.afterEntry r).sp = s.sp + 4#16 := by
  rw [State.sp, State.getW, w_afterEntry_of_ram h]
  exact vget_set_same s.w 15 _ (by decide) 15 rfl

/-- A pop from memory reads the two bytes there. -/
theorem topWord_of_ram {s : State} (h : sfrAt s.device (s.sp - 2#16) = none) :
    topWord s = s.ramWord (s.sp - 2#16) := by
  rw [topWord, wordAt, h]
  rfl

/-- The two pops of RETFIE after an entry are good and read the two words of its frame. -/
theorem pops_afterEntry {r : Request} {s : State} (h : RamFrame s s.sp) :
    WordOk (s.afterEntry r) ((s.afterEntry r).sp - 2#16) ∧ WordOk (s.afterEntry r) ((s.afterEntry r).sp - 4#16)
      ∧ topWord (s.afterEntry r) = frameWord2 s ∧ topWord (popped (s.afterEntry r)) = frameWord1 s := by
  have hsp := sp_afterEntry_of_ram (r := r) h
  have htop : (s.afterEntry r).sp - 2#16 = s.sp + 2#16 := by rw [hsp]; bv_omega
  have hnext : (s.afterEntry r).sp - 4#16 = s.sp := by rw [hsp]; bv_omega
  have hdevice : (s.afterEntry r).device = s.device := by rw [afterEntry_of_ram h]; rfl
  obtain ⟨hlow, hhigh, -⟩ := frameAt_afterEntry (r := r) h
  obtain ⟨hfirst, hsecond, hfirstRam, hsecondRam⟩ := h
  refine ⟨?topOk, ?nextOk, ?top, ?next⟩
  case topOk => rw [htop, WordOk, hdevice]; exact hsecond
  case nextOk => rw [hnext, WordOk, hdevice]; exact hfirst
  case top =>
    rw [topWord_of_ram (by rw [htop, hdevice]; exact hsecondRam), htop]
    exact hhigh
  case next =>
    rw [topWord_of_ram (by rw [sp_popped_sub, hnext, (popped_frame _).device, hdevice]; exact hfirstRam),
      sp_popped_sub, hnext]
    exact hlow

/-- The three parts of the frame's second word (R222). -/
theorem frameWord2_parts (s : State) : (frameWord2 s).extractLsb' 8 8 = s.sr.extractLsb' 0 8
    ∧ (frameWord2 s).getLsbD 7 = s.ipl3 ∧ (frameWord2 s).extractLsb' 0 7 = s.pc.extractLsb' 16 7 := by
  obtain ⟨hsrl, hipl3, hpc⟩ := (eq_append₃_iff (m := 8) (n := 1) (p := 7) (w := frameWord2 s)).mp rfl
  exact ⟨hsrl, extractLsb'_one_eq_ofBool_iff.mp hipl3, hpc⟩

/-- The pc of a frame is the even pc that it was made of (R222, 40_interrupt_instructions.md R154). -/
theorem frameTarget_frameWords {s : State} (heven : s.pc.getLsbD 0 = false) :
    frameTarget (frameWord2 s) (frameWord1 s) = s.pc := by
  obtain ⟨-, -, hhigh⟩ := frameWord2_parts s
  refine ((eq_append₃_iff (m := 7) (n := 15) (p := 1)).mpr ⟨hhigh.symm, ?low, ?bit⟩).symm
  case low =>
    apply BitVec.eq_of_getLsbD_eq
    intro i hi
    simp [frameWord1, hi]
  case bit => exact extractLsb'_one_eq_ofBool_iff (b := false).mpr heven

/-- SRL of the frame under the high byte that the entry left in SR is the SR before the entry. -/
theorem sr_restored (old : Word) (ipl : BitVec 3) :
    (old.extractLsb' 8 8 ++ ipl ++ old.extractLsb' 0 5 : BitVec (8 + 3 + 5)).extractLsb' 8 8 ++ old.extractLsb' 0 8
      = old := by
  have hhigh : (old.extractLsb' 8 8 ++ ipl ++ old.extractLsb' 0 5 : BitVec (8 + 3 + 5)).extractLsb' 8 8
      = old.extractLsb' 8 8 := by
    obtain ⟨hhigh, -⟩ := (eq_append₃_iff (m := 8) (n := 3) (p := 5)).mp rfl
    exact hhigh
  rw [hhigh]
  exact ((eq_append₂_iff (m := 8) (n := 8)).mpr ⟨rfl, rfl⟩).symm

/-- Two pops after two pushes leave every working register as it was. -/
theorem w_afterReturn {r : Request} {s : State} (h : RamFrame s s.sp) :
    (returnedFromException (s.afterEntry r)).w = s.w := by
  have hsp : (popped (s.afterEntry r)).sp - 2#16 = s.sp := by
    rw [sp_popped_sub, sp_afterEntry_of_ram h]
    bv_omega
  calc (popped (popped (s.afterEntry r))).w
      = ((s.afterEntry r).w.set 15 ((s.afterEntry r).sp - 2#16)).set 15 ((popped (s.afterEntry r)).sp - 2#16) := rfl
    _ = s.w.set 15 s.sp := by rw [Vector.set_set, hsp, w_afterEntry_of_ram h, Vector.set_set]
    _ = s.w := Vector.set_getElem_self (by decide)

theorem pc_afterReturn {r : Request} {s : State} (h : RamFrame s s.sp) (heven : s.pc.getLsbD 0 = false)
    (hlt : s.pc.toNat < 2 ^ s.device.pcw) : (returnedFromException (s.afterEntry r)).pc = s.pc := by
  obtain ⟨-, -, htop, hnext⟩ := pops_afterEntry (r := r) h
  calc framePc (s.afterEntry r)
      = wrapPc (s.afterEntry r).device
          (frameTarget (topWord (s.afterEntry r)) (topWord (popped (s.afterEntry r)))) :=
        (wrapPc_eq_pcValue _ _).symm
    _ = wrapPc s.device s.pc := by
        rw [htop, hnext, frameTarget_frameWords heven, afterEntry_of_ram h]
        rfl
    _ = s.pc := wrapPc_of_lt hlt

/-- RETFIE takes SRL and IPL3 from the frame, and SR's high byte is that of before the entry. -/
theorem status_afterReturn {r : Request} {s : State} (h : RamFrame s s.sp) :
    (returnedFromException (s.afterEntry r)).sr = s.sr ∧ (returnedFromException (s.afterEntry r)).ipl3 = s.ipl3 := by
  obtain ⟨-, -, htop, -⟩ := pops_afterEntry (r := r) h
  obtain ⟨hsrl, hipl3, -⟩ := frameWord2_parts s
  have hsr : (s.afterEntry r).sr
      = s.sr.extractLsb' 8 8 ++ newIpl (framePushed (frameStored s).mem s) r ++ s.sr.extractLsb' 0 5 := by
    rw [afterEntry_of_ram h]
    rfl
  constructor
  · show (s.afterEntry r).sr.extractLsb' 8 8 ++ (topWord (s.afterEntry r)).extractLsb' 8 8 = s.sr
    rw [htop, hsrl, hsr]
    exact sr_restored _ _
  · show (setBit (s.afterEntry r).corcon 3 ((topWord (s.afterEntry r)).getLsbD 7)).getLsbD 3 = s.ipl3
    rw [htop, hipl3, getLsbD_setBit _ _ _ _ (by decide), if_pos rfl]

/-- Neither the entry nor RETFIE touches the registers of the sources. -/
theorem sources_afterReturn {r : Request} {s : State} (h : RamFrame s s.sp) :
    (returnedFromException (s.afterEntry r)).ifs = s.ifs ∧ (returnedFromException (s.afterEntry r)).iec = s.iec
      ∧ (returnedFromException (s.afterEntry r)).ipc = s.ipc := by
  rw [afterEntry_of_ram h]
  exact ⟨rfl, rfl, rfl⟩

/-- `u` has the pc, the status, the working registers and the registers of the sources of `s`. -/
structure Restored (s u : State) : Prop where
  pc : u.pc = s.pc
  sr : u.sr = s.sr
  ipl3 : u.ipl3 = s.ipl3
  w : u.w = s.w
  ifs : u.ifs = s.ifs
  iec : u.iec = s.iec
  ipc : u.ipc = s.ipc

theorem Restored.cpuIpl {s u : State} (h : Restored s u) : u.cpuIpl = s.cpuIpl := by
  rw [State.cpuIpl, State.ipl, h.sr, h.ipl3]
  rfl

/-- The countdown touches nothing that is restored. -/
theorem Restored.finish {s u : State} (h : Restored s u) (k : StepKind) (wrote : Bool) :
    Restored s (u.finish k wrote) := by
  rw [finish_shape]
  exact ⟨h.pc, h.sr, h.ipl3, h.w, h.ifs, h.iec, h.ipc⟩

theorem restored_afterReturn {r : Request} {s : State} (h : RamFrame s s.sp) (heven : s.pc.getLsbD 0 = false)
    (hlt : s.pc.toNat < 2 ^ s.device.pcw) : Restored s (returnedFromException (s.afterEntry r)) := by
  obtain ⟨hsr, hipl3⟩ := status_afterReturn (r := r) h
  obtain ⟨hifs, hiec, hipc⟩ := sources_afterReturn (r := r) h
  exact ⟨pc_afterReturn h heven hlt, hsr, hipl3, w_afterReturn h, hifs, hiec, hipc⟩

/-- Settles O38: the two words of the frame are popped where they were pushed. -/
theorem retfieUndoesEntry : Obligations.RetfieUndoesEntry := by
  intro r s h heven hlt
  obtain ⟨hfirst, hsecond, -⟩ := pops_afterEntry (r := r) h
  have restored := (restored_afterReturn (r := r) h heven hlt).finish .retfie false
  exact ⟨_, _, exceptionEntry_of_ram h, exec_retfie_of_ok hfirst hsecond, restored.pc, restored.sr, restored.ipl3,
    restored.cpuIpl, restored.w, restored.ifs, restored.iec, restored.ipc⟩

/-! ### The priority level after an entry -/

/-- A winner is above the CPU's level. -/
theorem cpuIpl_lt_of_winner {s : State} {r : Request} (h : s.winner = some r) : s.cpuIpl.toNat < r.level.toNat := by
  cases r with
  | trap t =>
    obtain ⟨heligible, -⟩ := (trapWinner_eq_some_iff s t).mp ((winner_eq_trap_iff s t).mp h)
    exact ((trapEligible_iff s t).mp heligible).2
  | irq i p =>
    obtain ⟨-, hirq⟩ := (winner_eq_irq_iff s i p).mp h
    obtain ⟨heligible, rfl, -⟩ := (irqWinner_eq_some_iff s i p).mp hirq
    obtain ⟨-, -, hlt, -⟩ := (eligible_iff s i).mp heligible
    exact hlt.trans_eq (zeroExtend_prio_toNat _).symm

/-- An entry's new level is IPL3 and IPL<2:0> as the statements write them (R223). -/
theorem cpuIpl_afterEntry {r : Request} {s : State} (h : RamFrame s s.sp) :
    (s.afterEntry r).cpuIpl = BitVec.ofBool (newIpl3 s r) ++ newIpl s r := by
  have hnstdis : (framePushed (frameStored s).mem s).nstdis = s.nstdis := by
    show (if _ then setBit s.intcon1 2 true else s.intcon1).getLsbD 15 = s.intcon1.getLsbD 15
    split
    · exact getLsbD_setBit _ _ _ _ (by decide)
    · rfl
  have hipl : newIpl (framePushed (frameStored s).mem s) r = newIpl s r := by
    cases r with
    | trap t => rfl
    | irq i p => rw [newIpl, newIpl, hnstdis]
  have hipl3 : newIpl3 (framePushed (frameStored s).mem s) r = newIpl3 s r := by cases r <;> rfl
  have hfield : (s.sr.extractLsb' 8 8 ++ newIpl s r ++ s.sr.extractLsb' 0 5 : BitVec (8 + 3 + 5)).extractLsb' 5 3
      = newIpl s r := by
    obtain ⟨-, hipl, -⟩ := (eq_append₃_iff (m := 8) (n := 3) (p := 5)).mp rfl
    exact hipl
  have hbit : (setBit s.corcon 3 (newIpl3 s r)).getLsbD 3 = newIpl3 s r := by
    rw [getLsbD_setBit _ _ _ _ (by decide), if_pos rfl]
  calc (s.afterEntry r).cpuIpl
      = BitVec.ofBool ((setBit s.corcon 3 (newIpl3 (framePushed (frameStored s).mem s) r)).getLsbD 3)
          ++ (s.sr.extractLsb' 8 8 ++ newIpl (framePushed (frameStored s).mem s) r ++ s.sr.extractLsb' 0 5
            : BitVec (8 + 3 + 5)).extractLsb' 5 3 := by
        rw [afterEntry_of_ram h]
        rfl
    _ = _ := by rw [hipl, hipl3, hfield, hbit]

/-- The level that an entry leaves: a trap's own, and an interrupt's own or 7 with NSTDIS set (R218, R223, R233). -/
theorem level_afterEntry {r : Request} {s : State} (h : RamFrame s s.sp) (hwinner : s.winner = some r) :
    (∀ k, r = .trap k → (s.afterEntry r).cpuIpl = k.level)
      ∧ ∀ i p, r = .irq i p → (s.afterEntry r).cpuIpl.toNat = if s.nstdis then 7 else p.toNat := by
  rw [cpuIpl_afterEntry h]
  constructor
  · rintro k rfl
    have hlevel : BitVec.ofBool true ++ BitVec.ofNat 3 (k.level.toNat - 8) = k.level := by cases k <;> decide
    exact hlevel
  · rintro i p rfl
    have hlt : s.cpuIpl.toNat < p.toNat := (cpuIpl_lt_of_winner hwinner).trans_eq (zeroExtend_prio_toNat p)
    have hipl3 : s.ipl3 = false := by
      rw [cpuIpl_toNat] at hlt
      have := p.isLt
      cases hbit : s.ipl3
      · rfl
      · rw [hbit, if_pos rfl] at hlt
        omega
    have hnew : newIpl3 s (.irq i p) = false := hipl3
    have hzero : ∀ v : BitVec 3, (BitVec.ofBool false ++ v).toNat = v.toNat := by decide
    rw [hnew, hzero, newIpl]
    split <;> rfl

/-- The level that an entry leaves is at least the request's. -/
theorem level_le_afterEntry {r : Request} {s : State} (h : RamFrame s s.sp) (hwinner : s.winner = some r) :
    r.level.toNat ≤ (s.afterEntry r).cpuIpl.toNat ∧ (s.nstdis = true → 7 ≤ (s.afterEntry r).cpuIpl.toNat) := by
  obtain ⟨htrap, hirq⟩ := level_afterEntry h hwinner
  cases r with
  | trap k =>
    have hseven : 7 ≤ k.level.toNat := by cases k <;> decide
    rw [htrap k rfl]
    exact ⟨le_rfl, fun _ => hseven⟩
  | irq i p =>
    have hlevel : (Request.irq i p).level.toNat = p.toNat := zeroExtend_prio_toNat p
    have hp := p.isLt
    rw [hirq i p rfl, hlevel]
    split
    · exact ⟨by omega, fun _ => le_rfl⟩
    · next hn => exact ⟨le_rfl, fun h => absurd h hn⟩

/-- Settles O39: the entry's level is not below the request's, and with NSTDIS set not below any source's. -/
theorem entryRaisesLevel : Obligations.EntryRaisesLevel := by
  intro r s t hwinner h ht
  obtain rfl : s.afterEntry r = t := by
    rw [exceptionEntry_of_ram h] at ht
    exact Host.Outcome.next.inj ht
  obtain ⟨htrap, hirq⟩ := level_afterEntry h hwinner
  obtain ⟨hle, hseven⟩ := level_le_afterEntry h hwinner
  refine ⟨(cpuIpl_lt_of_winner hwinner).trans_le hle, htrap, hirq, fun j hj => ?_⟩
  apply Bool.eq_false_of_not_eq_true
  intro heligible
  obtain ⟨-, -, habove, -⟩ := (eligible_iff _ j).mp heligible
  have hprio := ((s.afterEntry r).arbPrio j).isLt
  rcases hj with hlow | hnstdis
  · omega
  · have := hseven hnstdis
    omega

end Sys2Proof.Claims
end

section
/-! SUPPORT. The events that raise a hard trap or a math error (61_traps.md R285 to R292, R306, R312, R313), and the
settlements of HardTraps, MathErrorEvents and AccumulatorOverflow. -/

namespace Sys2Proof.Claims

open Sys2Proof Sys2Proof.Machine

/-! ### Hard traps -/

/-- The traps above a hard trap: none above the oscillator failure, which alone is above the address error (R270). -/
theorem trap_above_hard : ∀ u : Trap, ¬ Trap.oscFail.level.toNat < u.level.toNat
    ∧ (Trap.addressError.level.toNat < u.level.toNat ↔ u = .oscFail) := by
  intro u
  cases u <;> decide

/-- An oscillator failure is a conflict only at level 15 (R312). -/
theorem conflict_oscFail_iff (s : State) : Conflict .oscFail s ↔ s.cpuIpl = 15#4 := by
  have hlevel : ∀ l : Level, Trap.oscFail.level.toNat < l.toNat ↔ l = 15#4 := by decide
  rw [Conflict, hlevel]
  exact or_iff_right fun ⟨u, habove, _⟩ => (trap_above_hard u).1 habove

/-- An address error is a conflict while an oscillator failure is pending, and above level 13 (R312). -/
theorem conflict_addressError_iff (s : State) :
    Conflict .addressError s ↔ s.tflag .oscFail = true ∨ s.cpuIpl = 14#4 ∨ s.cpuIpl = 15#4 := by
  have hlevel : ∀ l : Level, Trap.addressError.level.toNat < l.toNat ↔ l = 14#4 ∨ l = 15#4 := by decide
  have hpending : (∃ u : Trap, Trap.addressError.level.toNat < u.level.toNat ∧ s.tflag u = true)
      ↔ s.tflag .oscFail = true := by
    simp only [fun u => (trap_above_hard u).2, exists_eq_left]
  rw [Conflict, hpending, hlevel]

theorem raiseHard_of_conflict {h : Trap} {s : State} (hconflict : Conflict h s) (after : State) :
    raiseHard h s after = .next (deviceReset .trapConflict s) := by
  obtain ⟨hreset, -⟩ := raisesHard_raiseHard (h := h) (s := s) (after := after) (P := fun _ => True) trivial
  exact hreset hconflict

/-- Settles O27: both events raise their trap through the check of R312, whose conflict is a device Reset. -/
theorem hardTraps : Obligations.HardTraps := fun s after =>
  ⟨raisesHard_raiseHard rfl, conflict_oscFail_iff s, raisesHard_raiseHard rfl, (conflict_addressError_iff s).symm,
    fun hconflict => ⟨_, raiseHard_of_conflict hconflict after, rfl, rfl, rfl⟩⟩

/-! ### Math errors -/

/-- An overflow out of bit 39 sets the cause bit and MATHERR exactly while COVTE is set (R288, R289). -/
theorem accCatastrophic_eq (acc : Acc) (v : AccVal) (s : State) : s.accCatastrophic acc v = { s.setAcc acc v with
    intcon1 := if s.intcon1.getLsbD 8 then setBit (setBit s.intcon1 acc.catastrophicBit true) 4 true
      else s.intcon1 } := rfl

/-- Settles O28: COVTE decides of the overflow out of bit 39, and nothing of the other two causes. -/
theorem mathErrorEvents : Obligations.MathErrorEvents := by
  intro s v
  have hevent : ∀ acc, applyEvent (.accCatastrophic acc v) s = .next (s.accCatastrophic acc v) := fun _ => rfl
  refine ⟨fun henabled => ?enabled, fun hdisabled => ?disabled, rfl, rfl⟩
  case enabled =>
    simp only [hevent, accCatastrophic_eq, henabled, if_true]
    exact ⟨rfl, rfl⟩
  case disabled =>
    simp only [hevent, accCatastrophic_eq, hdisabled, Bool.false_eq_true, if_false]
    exact ⟨rfl, rfl⟩

/-- Settles O29: the effects of both events on either accumulator, by their definition. -/
theorem accumulatorOverflow : Obligations.AccumulatorOverflow := fun _ _ => ⟨rfl, rfl, rfl, rfl⟩

end Sys2Proof.Claims
end

section
/-! SUPPORT. Address errors of program memory: a jump to an unimplemented address and a fetch from one (61_traps.md
R298, R299), and the settlements of JumpToUnimplementedTraps and FetchFromUnimplementedTraps. -/

namespace Sys2Proof.Machine

theorem even_wrapPc {d : Device} {a : PAddr} (h : a.getLsbD 0 = false) : (wrapPc d a).getLsbD 0 = false := by
  rw [getLsbD_wrapPc, h, Bool.and_false]

/-- A lost pc is even and fits its width (log 37). -/
theorem exists_losePc (s : State) :
    ∃ p : PAddr, p.getLsbD 0 = false ∧ p.toNat < 2 ^ s.device.pcw ∧ s.losePc = { s with pc := p } := by
  have heven : (Config.freePc s.tick ++ 0#1).getLsbD 0 = false := BitVec.getLsbD_append.trans rfl
  exact ⟨wrapPc s.device (Config.freePc s.tick ++ 0#1), even_wrapPc heven, toNat_wrapPc_lt _ _, rfl⟩

end Sys2Proof.Machine

namespace Sys2Proof.Claims

open Sys2Proof Sys2Proof.Machine

/-- A step that ends in an address error of program memory raises the trap: ADDRERR is set, the pc is lost, the
countdown runs, and nothing else changes. -/
theorem raisesHard_lostPc (k : StepKind) (s : State) :
    RaisesHard .addressError s (settle true s ((s.setTflag .addressError).losePc.finish k false)) fun t =>
      MemoryKept s t ∧ ∃ p : PAddr, p.getLsbD 0 = false ∧ p.toNat < 2 ^ s.device.pcw
        ∧ CountedDown k { s with pc := p, intcon1 := setBit s.intcon1 3 true } t := by
  obtain ⟨p, heven, hfits, hlost⟩ := exists_losePc (s.setTflag .addressError)
  rw [settle_true, hlost]
  exact raisesHard_raiseHard ⟨memoryKept_of_mem rfl rfl, p, heven, hfits, countedDown_finish k _⟩

/-- A jump to an unimplemented address. -/
theorem jumpTo_of_unimplemented {k : StepKind} {s : State} {target : PAddr}
    (hunimpl : progImplemented s.device (wrapPc s.device target) = false) :
    jumpTo k target s = settle true s ((s.setTflag .addressError).losePc.finish k false) :=
  if_neg (by rw [hunimpl]; decide)

/-- Settles O9: GOTO and BRA are jumps to the wrapped target. -/
theorem jumpToUnimplementedTraps : Obligations.JumpToUnimplementedTraps := by
  intro i target s hjump hunimpl
  have hexec : exec i s = settle true s ((s.setTflag .addressError).losePc.finish (kindOf i) false) := by
    obtain ⟨operand, rfl, heven, rfl⟩ | ⟨offset, rfl, rfl⟩ := hjump
    · refine jumpTo_of_unimplemented ?_
      rw [gotoTarget_of_even heven, wrapPc_eq_pcValue]
      exact hunimpl
    · refine jumpTo_of_unimplemented ?_
      rw [braTarget_eq_ofInt, wrapPc_ofInt]
      exact hunimpl
  rw [hexec]
  exact raisesHard_lostPc (kindOf i) s

/-- A step at an unimplemented pc executes no instruction (R299). -/
theorem executeInstruction_of_unimplemented {collision : Bool} {s : State}
    (hunimpl : progImplemented s.device s.pc = false) : executeInstruction collision s
      = settle true s ((s.setTflag .addressError).losePc.finish .fetchError false) :=
  if_pos (by rw [hunimpl]; rfl)

/-- Settles O26: without a winner the step is that of the unimplemented pc. -/
theorem fetchFromUnimplementedTraps : Obligations.FetchFromUnimplementedTraps := by
  intro s u harb hwinner hunimpl
  rw [step_of_no_winner harb hwinner,
    executeInstruction_of_unimplemented (s := { u with stalePrio := [], skid := 0 }) hunimpl]
  exact raisesHard_lostPc .fetchError { u with stalePrio := [], skid := 0 }

end Sys2Proof.Claims
end

section
/-! SUPPORT. Data accesses that raise the address error trap: which they are, and what an instruction with one of them
leaves (61_traps.md R296, R300, R303), and the settlements of WhichAccessesAreBad and DataAddressErrorTraps. -/

namespace Sys2Proof.Machine

/-! ### Status bits -/

theorem setTflagIf_setTflagIf (a b : Bool) (t : Trap) (s : State) :
    (s.setTflagIf a t).setTflagIf b t = s.setTflagIf (a || b) t := by
  cases b with
  | false => rw [Bool.or_false, setTflagIf_false]
  | true => rw [Bool.or_true, setTflagIf_true, setTflagIf_true, Claims.setTflag_setTflagIf]

/-- A set status bit, and every other one as before. -/
theorem getLsbD_setBit_true (w : Word) {i : Nat} (hi : i < 16) (n : Nat) :
    (setBit w i true).getLsbD n = (w.getLsbD n || decide (n = i)) := by
  rw [getLsbD_setBit w i n true hi]
  by_cases hn : n = i
  · rw [if_pos hn, decide_eq_true hn, Bool.or_true]
  · rw [if_neg hn, decide_eq_false hn, Bool.or_false]

/-! ### Accesses -/

/-- A word read leaves ADDRERR set where its address is bad, and nothing else. -/
theorem readWord_state (a : DAddr) (s : State) : (s.readWord a).2 = s.setTflagIf (s.wordBad a) .addressError := by
  rcases readWord_eq a s with ⟨hbad, e⟩ | ⟨hbad, e⟩ <;> rw [e, hbad] <;> rfl

theorem writeWord_inhibited (a : DAddr) (v : Word) (s : State) :
    s.writeWord true a v = s.setTflagIf (s.wordBad a) .addressError := by
  rcases writeWord_eq true a v s with ⟨hbad, e⟩ | ⟨hbad, -, e⟩ | ⟨-, h, -⟩
  · rw [e, hbad, setTflagIf_true]
  · rw [e, hbad, setTflagIf_false]
  · exact absurd h (by decide)

theorem writeWord_of_bad {a : DAddr} {s : State} (h : s.wordBad a = true) (inhibit : Bool) (v : Word) :
    s.writeWord inhibit a v = s.setTflag .addressError := if_pos h

theorem writeByte_of_bad {a : DAddr} {s : State} (h : s.byteBad a = true) (v : Byte) :
    s.writeByte a v = s.setTflag .addressError := if_pos h

/-- A bad second pop of a frame is at an address 4 below W15, or follows a bad first one. -/
theorem returnBad_eq (s : State) :
    s.returnBad = (s.wordBad (s.sp - 2#16) || s.wordBad (((s.sp - 2#16) &&& 0xFFFE#16) - 2#16)) := by
  unfold State.returnBad
  cases hfirst : s.wordBad (s.sp - 2#16) with
  | true => simp only [Bool.true_or]
  | false =>
    obtain ⟨heven, -⟩ := Claims.wordBad_eq_false_iff.mp hfirst
    rw [and_mask_of_even heven]

/-- W15 after two moves down by 2, bit 0 dropped at each. -/
theorem twoPops_sp (a : Word) :
    (((a - 2#16) &&& 0xFFFE#16) - 2#16) &&& 0xFFFE#16 = (a - 4#16) &&& 0xFFFE#16 := by
  have ha := a.isLt
  apply BitVec.eq_of_toNat_eq
  simp only [toNat_and_even, BitVec.toNat_sub, BitVec.toNat_ofNat]
  omega

end Sys2Proof.Machine

namespace Sys2Proof.Claims

open Sys2Proof Sys2Proof.Machine

/-! ### Which accesses are bad -/

/-- Settles O25: the accesses of each instruction, a word or a byte each. -/
theorem whichAccessesAreBad : Obligations.WhichAccessesAreBad := by
  intro s f g d lit
  have hword := fun a : DAddr => wordBad_eq_false_iff (s := s) (a := a)
  have hreturn : s.returnBad = false ↔ WordOk s (s.sp - 2#16) ∧ WordOk s (s.sp - 4#16) := by
    rw [State.returnBad, Bool.or_eq_false_iff, hword, hword, BitVec.sub_sub]
    rfl
  refine ⟨hword f, hword f, hword _, Iff.of_eq (Bool.not_eq_false' _), ?push, ?pop, hreturn, hreturn, rfl⟩
  case push => exact Bool.or_eq_false_iff.trans (and_congr (hword _) (hword _))
  case pop => exact Bool.or_eq_false_iff.trans (and_congr (hword _) (hword _))

/-! ### Stack accesses -/

theorem setTflagIf_stackErrorIf (c b : Bool) (s : State) :
    (stackErrorIf c s).setTflagIf b .addressError = stackErrorIf c (s.setTflagIf b .addressError) := by
  cases b with
  | false => rfl
  | true => exact setTflag_stackErrorIf c s

/-- A pop leaves ADDRERR set where its address is bad, W15 moved and its checks made, and nothing else. -/
theorem popWord_state (s : State) : s.popWord.2 =
    { stackErrorIf (popFails s s.sp) (s.setTflagIf (s.wordBad (s.sp - 2#16)) .addressError) with
      w := s.w.set 15 ((s.sp - 2#16) &&& 0xFFFE#16) } := by
  show ((s.setSp (s.sp - 2#16)).readWord (s.sp - 2#16)).2.setTflagIf _ _ = _
  rw [readWord_state]
  rfl

/-- Two pops of a frame leave ADDRERR set where one of them is bad, W15 moved twice and the checks of both made. -/
theorem popFrame_state (s : State) : s.popFrame.2.2 =
    { stackErrorIf (stackFails .ret s) (s.setTflagIf s.returnBad .addressError) with
      w := s.w.set 15 (movedSp .ret s) } := by
  have hsp : s.popWord.2.sp = (s.sp - 2#16) &&& 0xFFFE#16 := sp_popWord s
  have hfails : popFails s.popWord.2 = popFails s := by rw [popWord_state]; rfl
  have hbad : s.popWord.2.wordBad = s.wordBad := by rw [popWord_state]; rfl
  have hw : s.popWord.2.w = s.w.set 15 ((s.sp - 2#16) &&& 0xFFFE#16) := by rw [popWord_state]
  calc s.popFrame.2.2
      = s.popWord.2.popWord.2 := rfl
    _ = { stackErrorIf (popFails s ((s.sp - 2#16) &&& 0xFFFE#16))
            (s.popWord.2.setTflagIf (s.wordBad (((s.sp - 2#16) &&& 0xFFFE#16) - 2#16)) .addressError) with
          w := s.w.set 15 (movedSp .ret s) } := by
        rw [popWord_state s.popWord.2, hsp, hfails, hbad, hw, Vector.set_set, twoPops_sp]
        rfl
    _ = { stackErrorIf (popFails s ((s.sp - 2#16) &&& 0xFFFE#16))
            ((stackErrorIf (popFails s s.sp) (s.setTflagIf (s.wordBad (s.sp - 2#16)) .addressError)).setTflagIf
              (s.wordBad (((s.sp - 2#16) &&& 0xFFFE#16) - 2#16)) .addressError) with
          w := s.w.set 15 (movedSp .ret s) } := by
        rw [popWord_state]
        rfl
    _ = _ := by
        rw [setTflagIf_stackErrorIf, stackErrorIf_stackErrorIf, setTflagIf_setTflagIf, ← returnBad_eq]
        rfl

/-! ### What an address error leaves -/

/-- The state that an instruction with a bad access leaves before its countdown, with the pc that it takes: ADDRERR is
set, W15 is moved and the stack checks are made. RETFIE and MOV f,Wnd change a little more. -/
def addressFailed (i : Instr) (s : State) (pc : PAddr) : State :=
  { stackErrorIf (stackFails i s) (s.setTflag .addressError) with pc := pc, w := s.w.set 15 (movedSp i s) }

/-- What the statement says of the state `u` that an instruction with a bad access leaves before its countdown. -/
structure LeftByAddressError (i : Instr) (s u : State) : Prop where
  shape : u = { s with pc := u.pc, w := u.w, sr := u.sr, corcon := u.corcon, intcon1 := u.intcon1 }
  flags : ∀ n, n ≠ 2 → u.intcon1.getLsbD n = (s.intcon1.getLsbD n || decide (n = 3))
  stack : (∀ f, i ≠ .movToReg f 15#4) →
    u.sp = movedSp i s ∧ u.intcon1.getLsbD 2 = (s.intcon1.getLsbD 2 || stackFails i s)
  loadedSp : ∀ f, i = .movToReg f 15#4 → u.sp.getLsbD 0 = false
    ∧ (u.intcon1.getLsbD 2 = s.intcon1.getLsbD 2 ∨ u.sp.toNat < 0x0800 ∧ u.intcon1.getLsbD 2 = true)
  regs : ∀ r : Fin 16, r ≠ 15 → (∀ f d, i = .movToReg f d → d.toFin ≠ r) → u.w.get r = s.w.get r
  status : i ≠ .retfie → u.sr = s.sr ∧ u.corcon = s.corcon
  srHigh : ∀ n, 8 ≤ n → u.sr.getLsbD n = s.sr.getLsbD n
  corconOthers : ∀ n, n ≠ 3 → u.corcon.getLsbD n = s.corcon.getLsbD n
  nextPc : i ≠ .retfie → i ≠ .ret → u.pc = nextPc s
  poppedPc : i = .retfie ∨ i = .ret → u.pc.getLsbD 0 = false ∧ u.pc.toNat < 2 ^ s.device.pcw

/-- INTCON1 of the state that an address error leaves, bit by bit. -/
theorem getLsbD_intcon1_addressFailed (i : Instr) (s : State) (pc : PAddr) (n : Nat) :
    (addressFailed i s pc).intcon1.getLsbD n
      = (s.intcon1.getLsbD n || decide (n = 3) || (decide (n = 2) && stackFails i s)) := by
  show (if stackFails i s then setBit (setBit s.intcon1 3 true) 2 true else setBit s.intcon1 3 true).getLsbD n = _
  cases stackFails i s with
  | false =>
    rw [Bool.and_false, Bool.or_false]
    exact getLsbD_setBit_true _ (by decide) n
  | true =>
    rw [Bool.and_true, ← getLsbD_setBit_true s.intcon1 (by decide)]
    exact getLsbD_setBit_true _ (by decide) n

/-- An instruction other than MOV f,Wnd and RETFIE leaves that state, if it leaves a right pc. -/
theorem left_addressFailed {i : Instr} {s : State} {pc : PAddr} (hload : ∀ f d, i ≠ .movToReg f d)
    (hnext : i ≠ .retfie → i ≠ .ret → pc = nextPc s)
    (hpopped : i = .retfie ∨ i = .ret → pc.getLsbD 0 = false ∧ pc.toNat < 2 ^ s.device.pcw) :
    LeftByAddressError i s (addressFailed i s pc) where
  shape := rfl
  flags n hn := by simp [getLsbD_intcon1_addressFailed, hn]
  stack _ := ⟨vget_set_same s.w 15 _ (by decide) 15 rfl, by rw [getLsbD_intcon1_addressFailed]; simp⟩
  loadedSp f h := absurd h (hload f 15#4)
  regs r hr _ := vget_set_other s.w 15 _ (by decide) r fun h => hr (Fin.ext h)
  status _ := ⟨rfl, rfl⟩
  srHigh _ _ := rfl
  corconOthers _ _ := rfl
  nextPc := hnext
  poppedPc := hpopped

/-- RETFIE besides takes SRL and IPL3 from the word that it has popped. -/
theorem left_restoreStatus {s u : State} (h : LeftByAddressError .retfie s u) (hi : Word) :
    LeftByAddressError .retfie s (u.restoreStatus hi) := by
  have hshape := h.shape
  refine { h with
    shape := by rw [hshape]; rfl
    status := fun hne => absurd rfl hne
    srHigh := fun n hn => ?srHigh
    corconOthers := fun n hn => ?corcon }
  case srHigh =>
    have hmask : (0x00FF#16).getLsbD n = false :=
      Nat.testBit_lt_two_pow (Nat.lt_of_lt_of_le (by decide : 0xFF < 2 ^ 8) (Nat.pow_le_pow_right (by decide) hn))
    rw [← h.srHigh n hn]
    exact (getLsbD_replaceBits _ _ _ n).trans (if_neg (by rw [hmask]; decide))
  case corcon =>
    rw [← h.corconOthers n hn]
    exact (getLsbD_setBit _ _ _ _ (by decide)).trans (if_neg hn)

/-- A register load after a bad read: besides ADDRERR it may set STKERR, by a load of W15 below 0x0800 (R281). -/
theorem loaded_after_bad_read (d : WReg) (v : Word) (s : State) : ∃ flags : Word,
    (s.setTflag .addressError).loadW d v = { s.setW d v with intcon1 := flags }
      ∧ (∀ n, n ≠ 2 → flags.getLsbD n = (s.intcon1.getLsbD n || decide (n = 3)))
      ∧ (flags.getLsbD 2 = s.intcon1.getLsbD 2
        ∨ d = 15#4 ∧ (v &&& 0xFFFE#16).toNat < 0x0800 ∧ flags.getLsbD 2 = true) := by
  rcases loadW_eq d v (s.setTflag .addressError) with e | ⟨hd, hlow, e⟩
  · refine ⟨setBit s.intcon1 3 true, e, fun n _ => getLsbD_setBit_true _ (by decide) n, .inl ?_⟩
    rw [getLsbD_setBit_true _ (by decide)]
    exact Bool.or_false _
  · refine ⟨setBit (setBit s.intcon1 3 true) 2 true, e, fun n hn => ?_, .inr ⟨hd, hlow, ?_⟩⟩
    · rw [getLsbD_setBit_true _ (by decide), getLsbD_setBit_true _ (by decide), decide_eq_false hn, Bool.or_false]
    · rw [getLsbD_setBit_true _ (by decide)]
      exact Bool.or_true _

/-- MOV f,Wnd loads its register with any value after the bad read (R303, U15). -/
theorem left_loadW (f : DAddr) (d : WReg) (v : Word) (s : State) : LeftByAddressError (.movToReg f d) s
    { (s.setTflag .addressError).loadW d v with pc := nextPc s } := by
  obtain ⟨flags, hload, hflags, hstack⟩ := loaded_after_bad_read d v s
  rw [hload]
  exact {
    shape := rfl
    flags := hflags
    stack := fun hother => by
      have hd : d ≠ 15#4 := fun h => hother f (by rw [h])
      refine ⟨sp_setW_of_ne hd v s, ?_⟩
      obtain h | ⟨h15, -⟩ := hstack
      · exact h.trans (Bool.or_false _).symm
      · exact absurd h15 hd
    loadedSp := fun f' h => by
      obtain ⟨-, rfl⟩ := Instr.movToReg.inj h
      have hsp : (s.setW 15#4 v).sp = v &&& 0xFFFE#16 := sp_setSp v s
      have heven : (v &&& 0xFFFE#16).getLsbD 0 = false := by rw [getLsbD_and_word]; exact Bool.and_false _
      exact ⟨(congrArg (BitVec.getLsbD · 0) hsp).trans heven,
        hstack.imp_right fun ⟨_, hlow, hset⟩ => ⟨(congrArg BitVec.toNat hsp).trans_lt hlow, hset⟩⟩
    regs := fun r _ hr => vget_set_other s.w _ _ d.isLt r fun h => hr f d rfl (Fin.ext h.symm)
    status := fun _ => ⟨rfl, rfl⟩
    srHigh := fun _ _ => rfl
    corconOthers := fun _ _ => rfl
    nextPc := fun _ _ => rfl
    poppedPc := fun h => by simp at h }

/-! ### The instructions with a data access -/

/-- An instruction that takes the pc after it and raises the address error trap. -/
theorem advance_addressFailed {i : Instr} {s q : State}
    (hq : q = { stackErrorIf (stackFails i s) (s.setTflag .addressError) with w := s.w.set 15 (movedSp i s) }) :
    q.advance 2 = addressFailed i s (nextPc s) := by
  subst hq
  exact advance_of_frame (s := s) (by constructor <;> rfl)

/-- An instruction without a stack access leaves only ADDRERR behind. -/
theorem advance_setTflag_addressFailed {i : Instr} {s : State} (hfails : stackFails i s = false)
    (hsp : movedSp i s = s.sp) : (s.setTflag .addressError).advance 2 = addressFailed i s (nextPc s) := by
  refine advance_addressFailed ?_
  have hw : s.w.set 15 (movedSp i s) = s.w := by
    rw [hsp]
    exact Vector.set_getElem_self _
  rw [hfails, hw]
  rfl

/-- The end of such an instruction: the trap is raised, and the countdown runs. -/
theorem settle_addressFailed {i : Instr} {s q : State} {bad hits : Bool} (k : StepKind) (hbad : bad = true)
    (hq : q.advance 2 = addressFailed i s (nextPc s)) : settle bad s ((q.advance 2).finish k (!bad && hits))
      = raiseHard .addressError s ((addressFailed i s (nextPc s)).finish k false) := by
  rw [hbad, hq]
  rfl

theorem exec_movToFile_of_bad {f : DAddr} {s : State} (ws : WReg) (hbad : s.wordBad f = true) :
    exec (.movToFile ws f) s = raiseHard .addressError s
      ((addressFailed (.movToFile ws f) s (nextPc s)).finish .movToFile false) := by
  refine settle_addressFailed .movToFile hbad ?_
  rw [writeWord_of_bad hbad]
  exact advance_setTflag_addressFailed rfl rfl

theorem exec_clr_of_bad {byteOp toFile : Bool} {f : BitVec 13} {s : State}
    (hbad : accessBad (.clr byteOp toFile f) s = true) : exec (.clr byteOp toFile f) s
      = raiseHard .addressError s ((addressFailed (.clr byteOp toFile f) s (nextPc s)).finish .clr false) := by
  cases toFile with
  | false => simp [accessBad] at hbad
  | true =>
    cases byteOp with
    | false =>
      have hbad : s.wordBad (f.zeroExtend 16) = true := hbad
      refine settle_addressFailed .clr hbad ?_
      rw [writeWord_of_bad hbad]
      exact advance_setTflag_addressFailed rfl rfl
    | true =>
      have hbad : s.byteBad (f.zeroExtend 16) = true := hbad
      refine settle_addressFailed .clr hbad ?_
      rw [writeByte_of_bad hbad]
      exact advance_setTflag_addressFailed rfl rfl

theorem exec_push_of_bad {f : DAddr} {s : State} (hbad : (s.wordBad f || s.wordBad s.sp) = true) :
    exec (.push f) s
      = raiseHard .addressError s ((addressFailed (.push f) s (nextPc s)).finish .push false) := by
  refine settle_addressFailed (q := (s.readWord f).2.pushWord (s.wordBad f || s.wordBad s.sp) (s.readWord f).1)
    .push hbad (advance_addressFailed ?_)
  calc (s.readWord f).2.pushWord (s.wordBad f || s.wordBad s.sp) (s.readWord f).1
      = { stackErrorIf (stackFails (.push f) s)
            ((s.setTflagIf (s.wordBad f) .addressError).setTflagIf (s.wordBad s.sp) .addressError) with
          w := s.w.set 15 (movedSp (.push f) s) } := by
        rw [hbad, pushWord_inhibited, readWord_state]
        rfl
    _ = _ := by rw [setTflagIf_setTflagIf, hbad, setTflagIf_true]

theorem exec_pop_of_bad {f : DAddr} {s : State} (hbad : (s.wordBad (s.sp - 2#16) || s.wordBad f) = true) :
    exec (.pop f) s
      = raiseHard .addressError s ((addressFailed (.pop f) s (nextPc s)).finish .pop false) := by
  refine settle_addressFailed
    (q := s.popWord.2.writeWord (s.wordBad (s.sp - 2#16) || s.wordBad f) f s.popWord.1)
    .pop hbad (advance_addressFailed ?_)
  calc s.popWord.2.writeWord (s.wordBad (s.sp - 2#16) || s.wordBad f) f s.popWord.1
      = { (stackErrorIf (stackFails (.pop f) s)
            (s.setTflagIf (s.wordBad (s.sp - 2#16)) .addressError)).setTflagIf (s.wordBad f) .addressError with
          w := s.w.set 15 (movedSp (.pop f) s) } := by
        rw [hbad, writeWord_inhibited, popWord_state]
        rfl
    _ = _ := by rw [setTflagIf_stackErrorIf, setTflagIf_setTflagIf, hbad, setTflagIf_true]

theorem exec_movToReg_of_bad {f : DAddr} {s : State} (d : WReg) (hbad : s.wordBad f = true) :
    exec (.movToReg f d) s = raiseHard .addressError s
      (State.finish .movToReg false
        { (s.setTflag .addressError).loadW d (s.readWord f).1 with pc := nextPc s }) := by
  have frame : DataFrame s ((s.setTflag .addressError).loadW d (s.readWord f).1) :=
    (setTflag_frame _ s).trans (loadW_frame d _ _)
  calc exec (.movToReg f d) s
      = settle (s.wordBad f) s
          ((((s.readWord f).2.loadW d (s.readWord f).1).advance 2).finish .movToReg false) := rfl
    _ = _ := by rw [readWord_state, hbad, settle_true, setTflagIf_true, advance_of_frame frame]

/-- The pops of a return of which one is bad. -/
theorem popFrame_of_bad {s : State} (hbad : s.returnBad = true) : s.popFrame.2.2 =
    { stackErrorIf (stackFails .ret s) (s.setTflag .addressError) with w := s.w.set 15 (movedSp .ret s) } := by
  rw [popFrame_state, hbad, setTflagIf_true]

/-- The pc that the two pops of a return give. -/
def returnPc (s : State) : PAddr := wrapPc s.device (frameTarget s.popFrame.1 s.popFrame.2.1)

theorem returnPc_even_fits (s : State) : (returnPc s).getLsbD 0 = false ∧ (returnPc s).toNat < 2 ^ s.device.pcw :=
  ⟨even_wrapPc (even_frameTarget _ _), toNat_wrapPc_lt _ _⟩

theorem exec_ret_of_bad {s : State} (hbad : s.returnBad = true) : exec .ret s
    = raiseHard .addressError s ((addressFailed .ret s (returnPc s)).finish .ret false) := by
  calc exec .ret s
      = settle s.returnBad s
          ((s.popFrame.2.2.setPc (frameTarget s.popFrame.1 s.popFrame.2.1)).finish .ret false) := rfl
    _ = _ := by
        rw [popFrame_of_bad hbad, hbad, settle_true]
        rfl

theorem exec_retfie_of_bad {s : State} (hbad : s.returnBad = true) : exec .retfie s = raiseHard .addressError s
    (((addressFailed .retfie s (returnPc s)).restoreStatus s.popFrame.1).finish .retfie false) := by
  calc exec .retfie s
      = settle s.returnBad s (((s.popFrame.2.2.restoreStatus s.popFrame.1).setPc
          (frameTarget s.popFrame.1 s.popFrame.2.1)).finish .retfie false) := rfl
    _ = _ := by
        rw [popFrame_of_bad hbad, hbad, settle_true]
        rfl

/-- Every instruction with a bad access raises the trap, and leaves before its countdown what the statement says. -/
theorem exec_of_accessBad {i : Instr} {s : State} (hbad : accessBad i s = true) :
    ∃ u, exec i s = raiseHard .addressError s (u.finish (kindOf i) false) ∧ LeftByAddressError i s u := by
  cases i with
  | push f => exact ⟨_, exec_push_of_bad hbad, left_addressFailed (by simp) (by simp) (by simp)⟩
  | pop f => exact ⟨_, exec_pop_of_bad hbad, left_addressFailed (by simp) (by simp) (by simp)⟩
  | movToFile ws f => exact ⟨_, exec_movToFile_of_bad ws hbad, left_addressFailed (by simp) (by simp) (by simp)⟩
  | clr byteOp toFile f => exact ⟨_, exec_clr_of_bad hbad, left_addressFailed (by simp) (by simp) (by simp)⟩
  | movToReg f d => exact ⟨_, exec_movToReg_of_bad d hbad, left_loadW f d _ s⟩
  | ret =>
    exact ⟨_, exec_ret_of_bad hbad, left_addressFailed (by simp) (by simp) fun _ => returnPc_even_fits s⟩
  | retfie =>
    have hleft := left_addressFailed (i := .retfie) (by simp) (by simp) fun _ => returnPc_even_fits s
    exact ⟨_, exec_retfie_of_bad hbad, left_restoreStatus hleft _⟩
  | nop | goto | movLit | bra | disi | reset | pwrsav => exact absurd hbad (by simp [accessBad])

/-- Settles O24: the trap is raised, and the countdown runs from the state that the bad access leaves. -/
theorem dataAddressErrorTraps : Obligations.DataAddressErrorTraps := by
  intro i s hbad
  obtain ⟨u, hexec, hleft⟩ := exec_of_accessBad hbad
  have hshape := hleft.shape
  have hmem : MemoryKept s u := memoryKept_of_mem (by rw [hshape]) (by rw [hshape])
  have hdevice : u.device = s.device := by rw [hshape]
  have hcount : u.finish (kindOf i) false = countedBy (u.drawCycles (kindOf i)) u := countDown_eq_countedBy _ u
  have hcycles : CycleCount s.device (kindOf i) (u.drawCycles (kindOf i)) := hdevice ▸ drawCycles_mem (kindOf i) u
  rw [hexec, hcount]
  exact raisesHard_raiseHard ⟨hmem, u, _, hcycles, congrArg (countedBy _) hshape, hleft.flags, hleft.stack,
    hleft.loadedSp, hleft.regs, hleft.status, hleft.srHigh, hleft.corconOthers, hleft.nextPc, hleft.poppedPc⟩

end Sys2Proof.Claims
end

section
/-! SUPPORT. The stack checks of pushes and pops (61_traps.md R280 to R284), and the settlements of StackOverflowCheck
and StackUnderflowAndWrap. -/

namespace Sys2Proof.Machine

/-- A word write moves W15 only where W15 itself is mapped. -/
theorem sp_writeWord {s : State} {a : DAddr} (h : sfrAt s.device a ≠ some .w15) (inhibit : Bool) (v : Word) :
    (s.writeWord inhibit a v).sp = s.sp := by
  rcases writeWord_eq inhibit a v s with ⟨-, e⟩ | ⟨-, -, e⟩ | ⟨-, -, e⟩ <;> rw [e]
  · rfl
  · rcases putWord_eq a v s with ⟨r, hr, e⟩ | ⟨-, e⟩ <;> rw [e]
    · cases r with
      | w15 => exact absurd hr h
      | splim | sr | corcon | disicnt | intcon1 | intcon2 | inttreg | rcon | osccon | ifs | iec | ipc => rfl
    · rfl

/-- A word write to good memory changes memory at most. -/
theorem writeWord_of_ram {s : State} {a : DAddr} (hok : Claims.WordOk s a) (hram : sfrAt s.device a = none)
    (inhibit : Bool) (v : Word) : ∃ mem, s.writeWord inhibit a v = { s with mem := mem } := by
  cases inhibit with
  | true => exact ⟨s.mem, by rw [writeWord_inhibited, Claims.wordBad_of_ok hok, setTflagIf_false]⟩
  | false => exact ⟨_, by rw [Claims.writeWord_of_ok hok, Claims.putWord_of_ram hram]; rfl⟩

/-- INTCON1 after a push: STKERR by the checks, after what the write left (R284). -/
theorem intcon1_pushWord (inhibit : Bool) (v : Word) (s : State) : (s.pushWord inhibit v).intcon1
    = ((s.writeWord inhibit s.sp v).setTflagIf
        (s.stackBad s.sp || decide (0xFFFE ≤ (s.writeWord inhibit s.sp v).sp.toNat)) .stackError).intcon1 := rfl

theorem sp_pushWord (inhibit : Bool) (v : Word) (s : State) :
    (s.pushWord inhibit v).sp = ((s.writeWord inhibit s.sp v).sp + 2#16) &&& 0xFFFE#16 := sp_setSp _ _

/-- A failed check sets STKERR. -/
theorem tflag_setTflagIf (t : Trap) (s : State) {failed : Bool} (h : failed = true) :
    (s.setTflagIf failed t).tflag t = true := by
  rw [h, setTflagIf_true]
  exact (getLsbD_setBit _ _ _ _ (Claims.trap_bit_implemented t).1).trans (if_pos rfl)

theorem stackError_pushWord {inhibit : Bool} {v : Word} {s : State}
    (h : (s.stackBad s.sp || decide (0xFFFE ≤ (s.writeWord inhibit s.sp v).sp.toNat)) = true) :
    (s.pushWord inhibit v).tflag .stackError = true := by
  rw [State.tflag, intcon1_pushWord]
  exact tflag_setTflagIf .stackError _ h

end Sys2Proof.Machine

namespace Sys2Proof.Claims

open Sys2Proof Sys2Proof.Machine

theorem stackBad_eq_badStack (s : State) : s.stackBad = badStack s := rfl

/-- The addresses that the check against SPLIM and that against 0x0800 find bad. -/
theorem badStack_eq_true_iff (s : State) (ea : DAddr) : badStack s ea = true
    ↔ ea.toNat < 0x0800 ∨ (s.splimWritten = true ∧ s.splim.toNat < ea.toNat) := by
  simp [badStack]

theorem badStack_eq_false_iff (s : State) (ea : DAddr) : badStack s ea = false
    ↔ 0x0800 ≤ ea.toNat ∧ (s.splimWritten = false ∨ ea.toNat ≤ s.splim.toNat) := by
  rw [badStack, Bool.or_eq_false_iff, Bool.and_eq_false_iff, decide_eq_false_iff_not, decide_eq_false_iff_not,
    Nat.not_lt, Nat.not_lt]

theorem stackError_pushWord_of_badStack {s : State} (h : badStack s s.sp = true) (inhibit : Bool) (v : Word) :
    (s.pushWord inhibit v).tflag .stackError = true :=
  stackError_pushWord (by rw [stackBad_eq_badStack, h, Bool.true_or])

theorem stackError_popWord {s : State} (h : popFails s s.sp = true) : s.popWord.2.tflag .stackError = true := by
  rw [popWord_state]
  exact tflag_setTflagIf .stackError _ h

theorem stackError_popWord_of_badStack {s : State} (h : badStack s (s.sp - 2#16) = true) :
    s.popWord.2.tflag .stackError = true :=
  stackError_popWord (by rw [popFails, h, Bool.true_or])

/-- A push to good memory whose checks do not fail raises nothing. -/
theorem intcon1_pushWord_of_good {s : State} (hok : WordOk s s.sp) (hram : sfrAt s.device s.sp = none)
    (hstack : badStack s s.sp = false) (hwrap : s.sp.toNat < 0xFFFE) (inhibit : Bool) (v : Word) :
    (s.pushWord inhibit v).intcon1 = s.intcon1 := by
  obtain ⟨mem, hwrite⟩ := writeWord_of_ram hok hram inhibit v
  have hsp : (s.writeWord inhibit s.sp v).sp = s.sp := by rw [hwrite]; rfl
  rw [intcon1_pushWord, hsp, stackBad_eq_badStack, hstack, decide_eq_false (Nat.not_le.mpr hwrap), Bool.or_false,
    setTflagIf_false, hwrite]

/-- A pop of a good word whose checks do not fail raises nothing. -/
theorem intcon1_popWord_of_good {s : State} (hok : WordOk s (s.sp - 2#16)) (hfails : popFails s s.sp = false) :
    s.popWord.2.intcon1 = s.intcon1 := by
  rw [popWord_state, hfails, wordBad_of_ok hok]
  rfl

/-- Settles O22: the check against SPLIM, where it fails and where neither it nor another check does. -/
theorem stackOverflowCheck : Obligations.StackOverflowCheck := by
  intro s inhibit v k
  refine ⟨rfl, rfl, ?armed, fun harmed habove => ?push, fun harmed habove => ?pop,
    fun hlimit hlow hwrap hok hram => ?pushGood, fun hlimit hlow hok => ?popGood⟩
  case armed => exact Bool.or_true _
  case push => exact stackError_pushWord_of_badStack ((badStack_eq_true_iff _ _).mpr (.inr ⟨harmed, habove⟩)) _ _
  case pop => exact stackError_popWord_of_badStack ((badStack_eq_true_iff _ _).mpr (.inr ⟨harmed, habove⟩))
  case pushGood =>
    exact intcon1_pushWord_of_good hok hram ((badStack_eq_false_iff _ _).mpr ⟨hlow, hlimit⟩) hwrap inhibit v
  case popGood =>
    have hlow' : 0x0800 ≤ (s.sp - 2#16).toNat := by bv_omega
    have hstack : badStack s (s.sp - 2#16) = false := (badStack_eq_false_iff _ _).mpr ⟨hlow', hlimit⟩
    refine intcon1_popWord_of_good hok ?_
    rw [popFails, hstack, Bool.false_or, decide_eq_false_iff_not]
    omega

/-- Settles O23: the check against 0x0800 and the checks of both wraps do not ask for SPLIM. -/
theorem stackUnderflowAndWrap : Obligations.StackUnderflowAndWrap := by
  intro s inhibit v
  refine ⟨fun hlow => ?push, fun hsp hmap => ?pushWrap, fun hlow => ?pop, fun hsp => ?popWrap⟩
  case push => exact stackError_pushWord_of_badStack ((badStack_eq_true_iff _ _).mpr (.inl hlow)) _ _
  case pushWrap =>
    have hkept := sp_writeWord hmap inhibit v
    refine ⟨stackError_pushWord ?_, ?_⟩
    · rw [hkept, hsp]
      exact Bool.or_true _
    · rw [sp_pushWord, hkept, hsp]
      rfl
  case pop => exact stackError_popWord_of_badStack ((badStack_eq_true_iff _ _).mpr (.inl hlow))
  case popWrap =>
    refine ⟨stackError_popWord ?_, ?_⟩
    · rw [popFails, hsp]
      exact Bool.or_true _
    · rw [sp_popWord, hsp]
      rfl

end Sys2Proof.Claims
end

section
/-! SUPPORT. DMA collisions with an instruction or an entry that writes memory, and DMA writes without one (61_traps.md
R294, 20_memory.md R118), and the settlement of DmaAndMemory. -/

namespace Sys2Proof.Claims

open Sys2Proof Sys2Proof.Machine

/-! ### Writes of memory -/

theorem wordAddr_of_ok {s : State} {a : DAddr} (h : WordOk s a) : wordAddr a = a := by
  obtain ⟨heven, -⟩ := h
  exact and_mask_of_even heven

/-- An instruction that stores at `a` writes memory exactly if its accesses are good and `a` is in no register. -/
theorem writesRam_iff {i : Instr} {s : State} {a : DAddr} (h : storeAddr i s = some a) :
    writesRam i s = true ↔ accessBad i s = false ∧ sfrAt s.device (wordAddr a) = none := by
  rw [writesRam, h, Option.any_some, Bool.and_eq_true, Bool.not_eq_true', Option.isNone_iff_eq_none]

/-- The same of an instruction whose store is one of a word. -/
theorem writesRam_iff_of_word {i : Instr} {s : State} {a : DAddr} {good : Prop} (h : storeAddr i s = some a)
    (haccess : accessBad i s = false ↔ good) (hword : good → WordOk s a) :
    writesRam i s = true ↔ good ∧ sfrAt s.device a = none := by
  rw [writesRam_iff h, haccess]
  exact and_congr_right fun hgood => by rw [wordAddr_of_ok (hword hgood)]

/-- The entries that write memory: those with a good frame of which one word is in no register. -/
theorem entryWritesRam_iff (s : State) : entryWritesRam s = true ↔ WordOk s s.sp ∧ WordOk s (frameSecond s)
    ∧ (sfrAt s.device s.sp = none ∨ sfrAt s.device (frameSecond s) = none) := by
  rw [entryWritesRam, Bool.and_eq_true, Bool.not_eq_true', entryBad_eq_false_iff, Bool.or_eq_true,
    Option.isNone_iff_eq_none, Option.isNone_iff_eq_none, and_assoc]
  refine and_congr_right fun hfirst => and_congr_right fun hsecond => ?_
  rw [secondPushAddr_of_ok hfirst, wordAddr_of_ok hfirst, wordAddr_of_ok hsecond]

/-- The notes of IPC writes do not bear on where an entry writes. -/
theorem entryWritesRam_withoutNotes (s : State) : entryWritesRam { s with stalePrio := [] } = entryWritesRam s :=
  Bool.eq_iff_iff.mpr ((entryWritesRam_iff _).trans (entryWritesRam_iff s).symm)

/-! ### DMA writes -/

/-- A DMA write without a collision, where it reaches memory (R118). -/
theorem dmaWrite_of_ram {s : State} {a : DAddr} (himpl : dataImplemented s.device a = true)
    (hram : sfrAt s.device (a &&& 0xFFFE#16) = none) (v : Byte) : s.dmaWrite a v = s.setRamByte a v :=
  if_pos (by rw [himpl, wordAddr, hram]; rfl)

/-- A DMA write that reaches no memory does nothing. -/
theorem dmaWrite_of_not_ram {s : State} {a : DAddr}
    (h : dataImplemented s.device a = false ∨ (sfrAt s.device (a &&& 0xFFFE#16)).isSome = true) (v : Byte) :
    s.dmaWrite a v = s := by
  refine if_neg ?_
  rw [Bool.and_eq_true, Option.isNone_iff_eq_none, ← Option.not_isSome_iff_eq_none]
  rintro ⟨himpl, hnone⟩
  rcases h with himpl' | hsome
  · exact absurd himpl (by rw [himpl']; decide)
  · exact hnone hsome

/-- A DMA write changes memory at most. -/
theorem dmaWrite_shape (s : State) (a : DAddr) (v : Byte) :
    s.dmaWrite a v = { s with mem := (s.dmaWrite a v).mem } := by
  unfold State.dmaWrite
  split <;> rfl

/-! ### Collisions -/

/-- A collision with a CPU step that goes on sets DMACERR if the step writes memory, and its writes stand (R294). -/
theorem withCollision_next_eq (happens : Bool) (t : State) : withCollision happens (.next t)
    = .next { t with intcon1 := if happens then setBit t.intcon1 5 true else t.intcon1 } := by
  cases happens <;> rfl

/-- A collision with an instruction that the words at the pc decode to. -/
theorem executeInstruction_of_collision {v t : State} {i : Instr} {rest : List PWord}
    (hprog : progImplemented v.device v.pc = true)
    (hdecode : decode [v.progWord v.pc, v.progWord (nextPc v)] = .ok i rest) (hexec : exec i v = .next t) :
    executeInstruction true v
      = .next { t with intcon1 := if writesRam i v then setBit t.intcon1 5 true else t.intcon1 } := by
  rw [← secondWordAddr_eq_nextPc] at hdecode
  rw [executeInstruction_of_decode hprog hdecode, hexec, Bool.true_and, withCollision_next_eq]

/-- A collision with the entry of a request that has won, or with the instruction let through before it. -/
theorem step_of_winner_collision {s u t : State} {r : Request} (harb : Arbitrates s u)
    (hdma : s.slot.dmaCollision = true) (hwinner : u.winner = some r)
    (hentry : exceptionEntry r { u with stalePrio := [] } = .next t) :
    step s = .next { t with intcon1 := if entryWritesRam u then setBit t.intcon1 5 true else t.intcon1 }
      ∨ u.skid < u.device.skidMax ∧ r.isHard = false
        ∧ step s = executeInstruction true { u with stalePrio := [], skid := u.skid + 1 } := by
  have hstep := step_of_winner harb hwinner
  rw [hdma] at hstep
  cases hthrough : u.letsThrough r with
  | false =>
    refine .inl ((hstep.trans (if_neg (by simp [hthrough]))).trans ?_)
    rw [enterException, hentry, Bool.true_and, entryWritesRam_withoutNotes, withCollision_next_eq]
  | true =>
    obtain ⟨hsoft, hskid⟩ := letsThrough_imp hthrough
    exact .inr ⟨hskid, hsoft, hstep.trans (if_pos hthrough)⟩

/-- Settles O30: collisions with an instruction and with an entry, which of them write memory, and DMA writes without a
collision. -/
theorem dmaAndMemory : Obligations.DmaAndMemory := by
  refine ⟨fun _ _ _ _ => executeInstruction_of_collision, fun s u harb hdma => ⟨fun hwinner => ?noWinner,
    fun _ _ => step_of_winner_collision harb hdma⟩, fun s f g d => ?writers, fun s a v => ?dmaWrite⟩
  case noWinner => rw [step_of_no_winner harb hwinner, hdma]
  case writers =>
    obtain ⟨-, hmov, hclr, hclrByte, hpush, hpop, -⟩ := whichAccessesAreBad s f g d 0#16
    refine ⟨entryWritesRam_iff s, writesRam_iff_of_word rfl hmov id, writesRam_iff_of_word rfl hclr id, ?clrByte,
      ?push, ?pop⟩
    case clrByte => exact (writesRam_iff rfl).trans (and_congr_left' hclrByte)
    case push => exact (writesRam_iff_of_word rfl hpush And.right).trans and_assoc
    case pop => exact (writesRam_iff_of_word rfl hpop And.right).trans and_assoc
  case dmaWrite =>
    refine ⟨s.dmaWrite a v, rfl, dmaWrite_shape s a v, fun himpl hram => ?_, fun h => dmaWrite_of_not_ram h v⟩
    rw [dmaWrite_of_ram himpl hram]
    exact storedByte_setRamByte s a v

end Sys2Proof.Claims
end

section
/-! SUPPORT. Priorities noted as changed on the fly (70_reset_and_hazards.md R340), and the settlements of
PriorityChangedOnTheFly and ResetResult. -/

namespace Sys2Proof.Machine

/-! ### Which sources a write of IPCj notes -/

theorem stalesAt_iff (s t : State) (i : Irq) :
    s.stalesAt t i = true ↔ s.en i = true ∧ s.cpuIpl.toNat < 7 ∧ t.prio i ≠ s.prio i := by
  rw [ne_comm]
  simp [State.stalesAt, BitVec.ult, and_assoc]

/-- A write of IPCj adds notes of the old priority, for the sources whose priority it changes on the fly (log 29). -/
theorem mem_stalePrio_writeIpc (s : State) (j : Fin 18) (v be : Word) (i : Irq) (p : BitVec 3) :
    (i, p) ∈ (s.writeSfr (.ipc j) v be).stalePrio
      ↔ (s.stalesAt (s.writeSfr (.ipc j) v be) i = true ∧ p = s.prio i) ∨ (i, p) ∈ s.stalePrio := by
  have hnotes : (s.writeSfr (.ipc j) v be).stalePrio
      = ((List.finRange 72).filter (s.stalesAt (s.writeSfr (.ipc j) v be))).map (fun k => (k, s.prio k))
        ++ s.stalePrio := rfl
  rw [hnotes, List.mem_append, List.mem_map]
  refine or_congr_left ⟨?_, ?_⟩
  · rintro ⟨k, hk, hpair⟩
    obtain ⟨rfl, rfl⟩ := Prod.mk.inj hpair
    exact ⟨List.of_mem_filter hk, rfl⟩
  · rintro ⟨hstale, rfl⟩
    exact ⟨i, List.mem_filter.mpr ⟨List.mem_finRange i, hstale⟩, rfl⟩

/-- After a write of IPCj to a source without a note, its only note is the old priority. -/
theorem mem_stalePrio_writeIpc_of_no_note {s : State} {i : Irq} (h : ∀ q ∈ s.stalePrio, q.1 ≠ i) (j : Fin 18)
    (v be : Word) (p : BitVec 3) : (i, p) ∈ (s.writeSfr (.ipc j) v be).stalePrio
      ↔ s.stalesAt (s.writeSfr (.ipc j) v be) i = true ∧ p = s.prio i :=
  (mem_stalePrio_writeIpc s j v be i p).trans (or_iff_left fun hmem => h (i, p) hmem rfl)

/-! ### The priority that an arbitration uses -/

/-- The draw of U1 is between the IPC field and a noted priority. -/
theorem arbPrio_eq_prio_or_noted (s : State) (i : Irq) :
    s.arbPrio i = s.prio i ∨ ∃ p, (i, p) ∈ s.stalePrio ∧ s.arbPrio i = p := by
  unfold State.arbPrio
  cases hlookup : s.stalePrio.lookup i with
  | none => exact .inl rfl
  | some old =>
    have hmem : (i, old) ∈ s.stalePrio := by
      obtain ⟨l₁, l₂, hsplit, -⟩ := List.lookup_eq_some_iff.mp hlookup
      simp [hsplit]
    cases hdraw : Config.freeStale s.tick i.val with
    | false => exact .inl rfl
    | true => exact .inr ⟨old, hmem, rfl⟩

end Sys2Proof.Machine

namespace Sys2Proof.Claims

open Sys2Proof Sys2Proof.Machine

/-- Settles O33: the draw is between the IPC field and a noted priority, and the only note that the write leaves is the
old field. -/
theorem priorityChangedOnTheFly : Obligations.PriorityChangedOnTheFly := by
  intro s i j v be t
  have hnote := fun hno => mem_stalePrio_writeIpc_of_no_note (s := s) (i := i) hno j v be
  refine ⟨arbPrio_eq_prio_or_noted s i, fun hno => ?oldOrNew, fun hno p hp => ((hnote hno p).mp hp).2,
    fun hen hlevel hchange => ?noted, fun hheld hno => ?onlyNew⟩
  case oldOrNew =>
    rcases arbPrio_eq_prio_or_noted t i with hnew | ⟨p, hp, harb⟩
    · exact .inr hnew
    · exact .inl (harb.trans ((hnote hno p).mp hp).2)
  case noted =>
    have hstale : s.stalesAt t i = true := (stalesAt_iff s t i).mpr ⟨hen, hlevel, hchange⟩
    exact (mem_stalePrio_writeIpc s j v be i _).mpr (.inl ⟨hstale, rfl⟩)
  case onlyNew =>
    have hnot : s.stalesAt t i ≠ true := fun hstale => by
      obtain ⟨hen, hlevel, -⟩ := (stalesAt_iff s t i).mp hstale
      rcases hheld with hoff | hhigh
      · exact absurd (hoff.symm.trans hen) (by decide)
      · omega
    refine arbPrio_of_no_note ?_
    rintro ⟨k, p⟩ hp rfl
    exact hnot ((hnote hno p).mp hp).1

/-- Settles O20: RESET has no effect but the device Reset, and no path that stops. -/
theorem resetResult : Obligations.ResetResult := fun s => ⟨deviceReset .software s, rfl, rfl⟩

end Sys2Proof.Claims
end
